-- ==== Sys2Proof/Word.lean ====
section
/-! DEFINITION. The two word types of OTPB (00_scope.md R9): a byte, and the 32-bit word of the bus and of a command. -/
namespace Sys2Proof

/-- A byte is 8 bits; bit 7 is its most significant bit (R9). -/
abbrev Byte := BitVec 8

/-- The 32-bit word of the host bus (R8 `BUS_WIDTH`) and of a command (R57). -/
abbrev Word := BitVec 32

end Sys2Proof
end

