-- ==== Sys2Proof/Syntax.lean ====
section
/-! DEFINITION. The ten commands of OTPB, one constructor per row of spec/opcode_table.json (30_encoding.md R59).
A command has no register-number fields and no immediates (R58), so no constructor has an argument; the one operand
bit, S of TOTP (R92), is the table's two rows TOTP and TOTP.S. -/
namespace Sys2Proof

/-- A command. -/
inductive Instr where
  /-- B32ENC: Base32-encode the input buffer (R73). -/
  | b32enc
  /-- LOCK: construct with the secret the host supplied (R77). -/
  | lock
  /-- GENSEC: generate a secret and construct (R78). -/
  | gensec
  /-- TRUNC: dynamic truncation of the DIGEST register (R84). -/
  | trunc
  /-- HOTP: the code for the counter bytes in CTRB (R86). -/
  | hotp
  /-- PACK64: pack COUNTER into CTRB (R89). -/
  | pack64
  /-- TOTP, S = 0: the code for the step of the clock (R92). -/
  | totp
  /-- TOTP.S, S = 1: the code for the step in register STEP (R92). -/
  | totpS
  /-- VTOTP: validate the presented code against the time window (R99). -/
  | vtotp
  /-- VHOTP: validate the presented code against the code of CTRB (R100). -/
  | vhotp
deriving DecidableEq, Repr

end Sys2Proof
end

