-- ==== Sys2Proof/WellFormed.lean ====
section
/-! DEFINITION. What is well formed: a command (always: it has no operands, R58), the fields of a command word
(30_encoding.md R60, check by check), and a host access (20_memory.md R48, R45). The decoder and the register window
are written apart from these checks, from R61 and R45; that they agree is stated as obligations. -/
namespace Sys2Proof

/-- A command has no operand that could be ill formed (R58). -/
def Instr.wf (_ : Instr) : Bool := true

/-- The three fields of a command word (R57). -/
structure CmdFields where
  op  : BitVec 4
  s   : Bool
  res : BitVec 27
deriving DecidableEq, Repr

/-- R60, first line: OP is none of the reserved 0x0 and 0xA..0xF. -/
def CmdFields.opAssigned (f : CmdFields) : Bool := 1 ≤ f.op.toNat && f.op.toNat ≤ 9

/-- R60, second line: the reserved bits 31:5 are 0. -/
def CmdFields.resClear (f : CmdFields) : Bool := f.res = 0#27

/-- R60, third line: S is 1 only with OP = 0x7. -/
def CmdFields.sAllowed (f : CmdFields) : Bool := !f.s || f.op = 7#4

/-- A command word's fields are legal: none of R60's lines holds. -/
def CmdFields.wf (f : CmdFields) : Bool := f.opAssigned && f.resClear && f.sAllowed

/-- The mapped byte ranges of the window, first offset and first offset past it (R45): the registers, CODE to CTRB,
DIGEST, SECRET and IN, OUT. -/
def mappedRanges : List (Nat × Nat) :=
  [(0x000, 0x04C), (0x050, 0x068), (0x070, 0x084), (0x100, 0x168), (0x180, 0x1C0)]

/-- A host access that the block answers with OKAY: 4 bytes wide, word-aligned, at a mapped offset (R48, R49). -/
def busAccessWf (bytes off : Nat) : Bool :=
  bytes = 4 && off % 4 = 0 && mappedRanges.any fun r => r.1 ≤ off && off < r.2

end Sys2Proof
end

