-- ==== Sys2Proof/Decode.lean ====
section
/-! DEFINITION. Decoding a command word, total on all 2^32 words (30_encoding.md R61), and the encoder written from
R59's words. -/
namespace Sys2Proof

/-- Why a word is illegal (R60). -/
inductive Illegal where
  /-- Bits 31:5 are not 0. -/
  | reservedBits
  /-- S = 1 with an OP other than 0x7. -/
  | strayS
  /-- OP is 0x0 or in 0xA..0xF. -/
  | reservedOp
deriving DecidableEq, Repr

/-- What a word decodes to: a command, or the reason it is illegal. -/
inductive Decoded where
  | instr (i : Instr)
  | illegal (why : Illegal)
deriving DecidableEq, Repr

/-- The command, if the word is one. -/
def Decoded.toOption : Decoded → Option Instr
  | .instr i => some i
  | .illegal _ => none

/-- The fields of a command word: OP in bits 3:0, S in bit 4, res in bits 31:5 (R57). -/
def cmdFields (w : Word) : CmdFields :=
  { op := w.extractLsb' 0 4, s := w.getLsbD 4, res := w.extractLsb' 5 27 }

/-- R61's case on OP, with S for TOTP. -/
def decodeOp (op : Nat) (s : Bool) : Decoded :=
  match op with
  | 0x1 => .instr .b32enc
  | 0x2 => .instr .lock
  | 0x3 => .instr .gensec
  | 0x4 => .instr .trunc
  | 0x5 => .instr .hotp
  | 0x6 => .instr .pack64
  | 0x7 => if s then .instr .totpS else .instr .totp
  | 0x8 => .instr .vtotp
  | 0x9 => .instr .vhotp
  | _ => .illegal .reservedOp

/-- `Decode(w)` of R61. -/
def decode (w : Word) : Decoded :=
  let f := cmdFields w
  if f.res ≠ 0#27 then .illegal .reservedBits
  else if f.s ∧ f.op ≠ 7#4 then .illegal .strayS
  else decodeOp f.op.toNat f.s

/-- A command word from its fields (R57). -/
def wordOfFields (f : CmdFields) : Word := f.res ++ BitVec.ofBool f.s ++ f.op

/-- The OP and S of each command (R59). -/
def encodeFields : Instr → CmdFields
  | .b32enc => ⟨0x1#4, false, 0#27⟩
  | .lock   => ⟨0x2#4, false, 0#27⟩
  | .gensec => ⟨0x3#4, false, 0#27⟩
  | .trunc  => ⟨0x4#4, false, 0#27⟩
  | .hotp   => ⟨0x5#4, false, 0#27⟩
  | .pack64 => ⟨0x6#4, false, 0#27⟩
  | .totp   => ⟨0x7#4, false, 0#27⟩
  | .totpS  => ⟨0x7#4, true, 0#27⟩
  | .vtotp  => ⟨0x8#4, false, 0#27⟩
  | .vhotp  => ⟨0x9#4, false, 0#27⟩

/-- `word(M)` of R63: the word a host writes to CMD to issue the command. -/
def encode (i : Instr) : Word := wordOfFields (encodeFields i)

/-- The decoder on a word numbered as spec/opcode_table.json numbers it: the low `nbits` bits of `w`, every bit above
them 0. A command is one 32-bit bus word and has no other length (R57), so a number that needs more bits is no
command. -/
def decodeTableWord (nbits w : Nat) : Option Instr :=
  if w % 2 ^ nbits < 2 ^ 32 then (decode (BitVec.ofNat 32 (w % 2 ^ nbits))).toOption else none

end Sys2Proof
end

