-- ==== Sys2Proof/Config.lean ====
section
/-! DEFINITION. The parameters of OTPB (00_scope.md R8): the fixed ones as numbers, the OPEN ones and the
draws as constants without a body, so that no proof can lean on a value of one. -/
namespace Sys2Proof

/-- One answer of the time port: the valid bit and an unsigned 64-bit count of Unix seconds (R111). -/
structure TimeSample where
  valid : Bool
  secs  : BitVec 64
deriving DecidableEq, Repr, Inhabited

/-- One answer of the entropy port (R113): `ok`, and the bytes it supplies when `ok = 1`. A request is for at
most `RAND_MAX` = 40 bytes (R78); a request for `n` bytes takes the first `n`. -/
structure EntropySample where
  ok    : Bool
  bytes : Vector Byte 40
deriving DecidableEq, Repr, Inhabited

/-! ### Fixed parameters (R8) -/

/-- `WINDOW_SIZE`, in bytes. -/
def Config.windowSize : Nat := 0x200
/-- `IN_MAX`: the Base32 input buffer, in bytes. -/
def Config.inMax : Nat := 40
/-- `SECRET_MAX`: the secret buffer, in bytes. -/
def Config.secretMax : Nat := 64
/-- `RAND_MAX`: the largest RAND_LEN that GENSEC takes. -/
def Config.randMax : Nat := 40

/-! ### OPEN parameters and draws: constants without a body -/

/-- `OTPB_BASE`, the window's base address: OPEN (R8, R44). Log entry 1. -/
opaque Config.otpbBase : Nat

/-- `HMAC_SHA1(key, msg)`: OPEN as a function (R6, R8, R114). Log entry 8. -/
opaque Config.hmacSha1 : List Byte → Vector Byte 8 → Vector Byte 20

/-- The free value of the time port's n-th sample, when the environment's list of samples is empty (R7, R111).
Log entry 5. -/
opaque Config.timeSample : Nat → TimeSample

/-- The free value of the entropy port's n-th answer, when the environment's list of answers is empty (R7, R79,
R113). Log entry 6. -/
opaque Config.entropySample : Nat → EntropySample

/-- The quotient by STEP_SIZE = 0, which no command computes in a state that a run reaches (R12, R22): free.
Log entry 13. -/
opaque Config.stepOfZeroSize : BitVec 64 → BitVec 64

/-- `SECRET[k]` for k ≥ 64, which no command reads in a state that a run reaches (R26, R77): free.
Log entry 13. -/
opaque Config.byteBeyondSecret : Nat → Byte

end Sys2Proof
end

