-- ==== Sys2Proof/Machine/State.lean ====
section
/-! DEFINITION. The state of OTPB (10_state.md), all of it plain data; the outside's events; and the reset state
(70_reset_and_hazards.md R118). -/
namespace Sys2Proof.Machine

/-- The error codes of STATUS.ERR (R101). The reserved codes 9..15 are never written, so they have no name (log
entry 14). -/
inductive ErrCode where
  | ok | illegalCmd | invalidCounterLength | clockUnavailable | randomSourceExhausted
  | notConstructed | alreadyConstructed | invalidConfig | invalidLength
deriving DecidableEq, Repr

/-- STATUS, the flag register (R19). Its reserved bits are not stored: they read 0 and ignore writes. -/
structure Status where
  busy    : Bool
  done    : Bool
  matched : Bool
  locked  : Bool
  err     : ErrCode
  wbusy   : Bool
  wlock   : Bool
deriving DecidableEq, Repr

/-- The words of the register window (20_memory.md R45). A buffer spans several words. -/
inductive WindowWord where
  | cmd | status | ctrl | stepSize | tol | randLen | secretLen | inLen | ctrbLen | codeInLen
  | counterLo | counterHi | stepLo | stepHi | stepUsedLo | stepUsedHi | truncVal | codeVal | outLen
  | code (j : Fin 2)
  | codeIn (j : Fin 2)
  | ctrb (j : Fin 2)
  | digest (j : Fin 5)
  | secret (j : Fin 16)
  | inBuf (j : Fin 10)
  | outBuf (j : Fin 16)
deriving DecidableEq, Repr

/-- How a word of the window answers a host write (R17, and the cases of R51). -/
inductive AccessClass where
  /-- CMD: a write issues a command. -/
  | wo
  /-- STATUS: a write clears W1C bits, and is never dropped. -/
  | w1c
  /-- CTRL: a write is never dropped. -/
  | ctrl
  /-- Read only. -/
  | ro
  /-- Read and write; a write is dropped while BUSY. -/
  | rw
  /-- Read and write; a write is dropped while BUSY and while LOCKED. -/
  | rwl
deriving DecidableEq, Repr

/-- The width of a host access, on a 32-bit bus (R48, R49; log entry 2). -/
inductive Width where
  | byte | half | word
deriving DecidableEq, Repr

/-- The width in bytes. -/
def Width.bytes : Width → Nat
  | .byte => 1
  | .half => 2
  | .word => 4

/-- A host access is a read, or a write of a value. -/
inductive BusOp where
  | read
  | write (v : Word)
deriving DecidableEq, Repr

/-- One host access, `MemRead(addr, width)` or `MemWrite(addr, width, v)` (R14, R48), at a platform address. -/
structure BusAccess where
  width : Width
  addr  : Nat
  op    : BusOp
deriving DecidableEq, Repr

/-- The block's answer to an access: OKAY or ERROR (R48), with data for a read. -/
structure BusResponse where
  okay : Bool
  data : Option Word
deriving DecidableEq, Repr

/-- What can happen next, one at a time, in the total order of R53 (log entry 3). -/
inductive Event where
  /-- A host access arrives. -/
  | access (a : BusAccess)
  /-- The engine takes its step, if it is enabled (R39). -/
  | engine
  /-- The reset input is asserted (R118, R119). -/
  | resetAssert
  /-- The reset input is released (R118). -/
  | resetRelease
deriving DecidableEq, Repr

/-- No behaviour of OTPB stops the machine: 93_implementation_defined.md treats no entry as `stuck`, and every failure
is an error code in STATUS.ERR, a next state (R101, R102). So there is no fault. -/
inductive Fault where
deriving DecidableEq, Repr

/-- Why a step has no meaning. -/
inductive Refusal where
  /-- Raised by an arm of `exec` whose instruction has no meaning yet; safe. No arm raises it now. -/
  | notModelled (mnemonic : String)
deriving DecidableEq, Repr

/-- The whole state: the registers and buffers of R18, its three hidden items, the reset input (R118), and the model's
own record of what the outside does and sees (last six fields; log entries 3, 5, 6, 9). -/
structure State where
  /-- STATUS (R19). -/
  status     : Status
  /-- CTRL.IE (R21). -/
  ie         : Bool
  /-- STEP_SIZE (R22). -/
  stepSize   : BitVec 32
  /-- TOL (R23). -/
  tol        : BitVec 4
  /-- RAND_LEN (R24). -/
  randLen    : BitVec 6
  /-- SECRET_LEN (R26). -/
  secretLen  : BitVec 7
  /-- SECRET (R26). -/
  secret     : Vector Byte 64
  /-- IN_LEN (R28). -/
  inLen      : BitVec 6
  /-- IN (R28). -/
  inBuf      : Vector Byte 40
  /-- OUT_LEN (R29). -/
  outLen     : BitVec 7
  /-- OUT (R29). -/
  outBuf     : Vector Byte 64
  /-- COUNTER, of which COUNTER_LO and COUNTER_HI are the halves (R30). -/
  counter    : BitVec 64
  /-- CTRB_LEN (R31). -/
  ctrbLen    : BitVec 4
  /-- CTRB (R31). -/
  ctrb       : Vector Byte 8
  /-- STEP, of which STEP_LO and STEP_HI are the halves (R32). -/
  stepReg    : BitVec 64
  /-- STEP_USED, of which STEP_USED_LO and STEP_USED_HI are the halves (R33). -/
  stepUsed   : BitVec 64
  /-- DIGEST (R34). -/
  digest     : Vector Byte 20
  /-- TRUNC_VAL (R35). -/
  truncVal   : BitVec 31
  /-- CODE_VAL (R35). -/
  codeVal    : BitVec 20
  /-- CODE (R35). -/
  code       : Vector Byte 8
  /-- CODE_IN_LEN (R36). -/
  codeInLen  : BitVec 8
  /-- CODE_IN (R36). -/
  codeIn     : Vector Byte 8
  /-- PEND, hidden: the accepted command word (R37). -/
  pend       : Word
  /-- TLAST, hidden: the last accepted time sample (R40). -/
  tlast      : BitVec 64
  /-- TLAST_VALID, hidden (R40). -/
  tlastValid : Bool
  /-- The reset input is asserted (R118). -/
  resetPin   : Bool
  /-- What happens next (R53; log entry 3). -/
  schedule   : List Event
  /-- The block's answer to the latest host access (R48; log entry 9). -/
  lastResp   : Option BusResponse
  /-- The samples the time port answers next (R111; log entry 5). -/
  timePort   : List TimeSample
  /-- How many time samples were drawn (R91; log entry 5). -/
  timeDraws  : Nat
  /-- The answers the entropy port gives next (R113; log entry 6). -/
  entropyPort  : List EntropySample
  /-- How many entropy answers were drawn (R113; log entry 6). -/
  entropyDraws : Nat
deriving DecidableEq, Repr

/-- STATUS = 0 (R118). -/
def Status.reset : Status :=
  { busy := false, done := false, matched := false, locked := false, err := .ok, wbusy := false, wlock := false }

/-- The machine right after reset is released (R118): all zero but STEP_SIZE = 30, TOL = 1 and RAND_LEN = 20; the
outside has nothing scheduled. -/
def State.reset : State :=
  { status := Status.reset, ie := false
    stepSize := 30#32, tol := 1#4, randLen := 20#6
    secretLen := 0#7, secret := Vector.replicate 64 0#8
    inLen := 0#6, inBuf := Vector.replicate 40 0#8
    outLen := 0#7, outBuf := Vector.replicate 64 0#8
    counter := 0#64, ctrbLen := 0#4, ctrb := Vector.replicate 8 0#8
    stepReg := 0#64, stepUsed := 0#64
    digest := Vector.replicate 20 0#8
    truncVal := 0#31, codeVal := 0#20, code := Vector.replicate 8 0#8
    codeInLen := 0#8, codeIn := Vector.replicate 8 0#8
    pend := 0#32, tlast := 0#64, tlastValid := false
    resetPin := false
    schedule := [], lastResp := none
    timePort := [], timeDraws := 0
    entropyPort := [], entropyDraws := 0 }

end Sys2Proof.Machine
end

