-- ==== Sys2Proof/Machine/Flags.lean ====
section
/-! DEFINITION. Every computation over STATUS, the flag register, and the interrupt output (10_state.md R19, R20, R38,
R39; 60_exceptions.md R101, R106). -/
namespace Sys2Proof.Machine

/-- The numeric code of an error in STATUS.ERR (R101). -/
def ErrCode.code : ErrCode → BitVec 4
  | .ok => 0#4
  | .illegalCmd => 1#4
  | .invalidCounterLength => 2#4
  | .clockUnavailable => 3#4
  | .randomSourceExhausted => 4#4
  | .notConstructed => 5#4
  | .alreadyConstructed => 6#4
  | .invalidConfig => 7#4
  | .invalidLength => 8#4

/-- STATUS as the host reads it: WLOCK[9], WBUSY[8], ERR[7:4], LOCKED[3], MATCH[2], DONE[1], BUSY[0]; bits 31:10
read 0 (R18, R19). -/
def Status.word (f : Status) : Word :=
  0#22 ++ BitVec.ofBool f.wlock ++ BitVec.ofBool f.wbusy ++ f.err.code
    ++ BitVec.ofBool f.locked ++ BitVec.ofBool f.matched ++ BitVec.ofBool f.done ++ BitVec.ofBool f.busy

/-- A host write of `v` to STATUS: a 1 clears DONE (bit 1), WBUSY (bit 8) and WLOCK (bit 9); every other bit of `v` is
ignored (R19, R51 case 2). -/
def Status.writeOneToClear (v : Word) (f : Status) : Status :=
  { f with done := f.done && !v.getLsbD 1, wbusy := f.wbusy && !v.getLsbD 8, wlock := f.wlock && !v.getLsbD 9 }

/-- Issue: BUSY <- 1, DONE <- 0; ERR and MATCH keep their values (R38). -/
def Status.issued (f : Status) : Status := { f with busy := true, done := false }

/-- Completion without error: ERR <- 0, MATCH <- `m`, BUSY <- 0, DONE <- 1 (R39, R20). -/
def Status.completed (m : Bool) (f : Status) : Status :=
  { f with busy := false, done := true, matched := m, err := .ok }

/-- Completion with the error `e`: ERR <- `e`, MATCH <- 0, BUSY <- 0, DONE <- 1 (R39, R102). -/
def Status.failed (e : ErrCode) (f : Status) : Status :=
  { f with busy := false, done := true, matched := false, err := e }

/-- The interrupt output, a level: CTRL.IE & STATUS.DONE (R106). -/
def State.irq (s : State) : Bool := s.ie && s.status.done

end Sys2Proof.Machine
end

