-- ==== Sys2Proof/Machine/Operands.lean ====
section
/-! DEFINITION. What commands compute, as functions on byte strings and numbers: Base32 (40_base32.md), dynamic
truncation and HOTP (42_hotp_truncation.md), the counter packer and the clock step (43_totp_counter.md), the comparison
and the window (44_validation.md), and the operands read from buffers. -/
namespace Sys2Proof.Machine

/-! ### Base32 -/

/-- Bit `p` of the bit string of `b`, most significant bit of each byte first (R65); past its end a zero bit, which is
the right padding of the last group (R66). -/
def bitAt (b : List Byte) (p : Nat) : Bool := (b.getD (p / 8) 0#8).getLsbD (7 - p % 8)

/-- The number of 5-bit groups of a string of `n` bytes, `ceil(8n / 5)` (R66). -/
def groupCount (n : Nat) : Nat := (8 * n + 4) / 5

/-- `v_g`: the value of group `g`, its first bit the most significant (R66). -/
def groupVal (b : List Byte) (g : Nat) : Nat :=
  (bitAt b (5 * g)).toNat * 16 + (bitAt b (5 * g + 1)).toNat * 8 + (bitAt b (5 * g + 2)).toNat * 4
    + (bitAt b (5 * g + 3)).toNat * 2 + (bitAt b (5 * g + 4)).toNat

/-- `alpha(v)`: the character of a group value (R67). -/
def alpha (v : Nat) : Byte :=
  if v ≤ 25 then BitVec.ofNat 8 (0x41 + v) else BitVec.ofNat 8 (0x32 + (v - 26))

/-- `P`: how many `'='` follow the characters of a string of `n` bytes; the first five cases are exhaustive (R68). -/
def padCount (n : Nat) : Nat :=
  match 8 * n % 40 with
  | 0 => 0
  | 8 => 6
  | 16 => 4
  | 24 => 3
  | 32 => 1
  | _ => 0

/-- `Base32(b)` (R69). -/
def base32 (b : List Byte) : List Byte :=
  (List.range (groupCount b.length)).map (fun g => alpha (groupVal b g)) ++ List.replicate (padCount b.length) 0x3D#8

/-- A buffer of `n` bytes that holds `t`, with 0x00 past its length (R43). -/
def fillBuf (n : Nat) (t : List Byte) : Vector Byte n := Vector.ofFn fun k => t.getD k.val 0#8

/-- `IN[0..IN_LEN)` (R28). -/
def inputBytes (s : State) : List Byte := s.inBuf.toList.take s.inLen.toNat

/-! ### The secret -/

/-- The secret, `SECRET[0..SECRET_LEN)` (R26): the key of HMAC, as stored, never Base32-decoded (R85). LOCK and GENSEC
leave SECRET_LEN at most 64 (R77, R78); for the values above it, which no run reaches while LOCKED, the bytes past the
buffer are free (log entry 13). -/
def secretKey (s : State) : List Byte :=
  s.secret.toList.take s.secretLen.toNat ++ (List.range (s.secretLen.toNat - 64)).map Config.byteBeyondSecret

/-! ### Dynamic truncation and HOTP -/

/-- `be32`: four bytes as a big-endian 32-bit unsigned integer (R13). -/
def be32 (b0 b1 b2 b3 : Byte) : Word := b0 ++ b1 ++ b2 ++ b3

/-- The offset of truncation: the low 4 bits of the last digest byte (R80). -/
def truncOffset (d : Vector Byte 20) : Nat := (d[19] &&& 0x0F#8).toNat

/-- The offset is at most 15, so that the window `D[off .. off+3]` never reaches byte 19 (R83). -/
theorem truncOffset_lt (d : Vector Byte 20) : truncOffset d < 16 := by
  simp only [truncOffset, BitVec.toNat_and, BitVec.toNat_ofNat, Nat.reducePow, Nat.reduceMod]
  exact Nat.lt_of_le_of_lt Nat.and_le_right (by decide)

/-- The 31-bit truncated value `V`: the window read big-endian, its most significant bit cleared (R80). -/
def truncValue (d : Vector Byte 20) : Word :=
  have h := truncOffset_lt d
  be32 (d[truncOffset d]) (d[truncOffset d + 1]) (d[truncOffset d + 2]) (d[truncOffset d + 3]) &&& 0x7FFFFFFF#32

/-- `code[k]`: the k-th ASCII digit of a code value, most significant first (R82). -/
def codeDigit (cv k : Nat) : Byte := BitVec.ofNat 8 (0x30 + cv / 10 ^ (5 - k) % 10)

/-- The triple `(V, CV, code)` of `Trunc` (R82). -/
structure TruncResult where
  value   : BitVec 31
  codeVal : BitVec 20
  digits  : Vector Byte 6
deriving DecidableEq, Repr

/-- `Trunc(D)` (R80, R81, R82). -/
def truncDigest (d : Vector Byte 20) : TruncResult :=
  let v := truncValue d
  let cv := v.toNat % 1000000
  { value := v.setWidth 31
    codeVal := BitVec.ofNat 20 cv
    digits := Vector.ofFn fun k => codeDigit cv k.val }

/-- `Hotp(key, m)` = `Trunc(HMAC_SHA1(key, m))` (R85). -/
def hotpOf (key : List Byte) (m : Vector Byte 8) : TruncResult := truncDigest (Config.hmacSha1 key m)

/-- The eight bytes of CODE for a six-digit code: `CODE[6]` and `CODE[7]` are 0x00 (R35, R43). -/
def codeBytes (digits : Vector Byte 6) : Vector Byte 8 :=
  Vector.ofFn fun k => if h : k.val < 6 then digits[k.val] else 0#8

/-! ### The counter packer and the clock step -/

/-- `Pack64(c)[i] = (c >> (56 - 8*i)) & 0xFF` (R87). -/
def pack64 (c : BitVec 64) : Vector Byte 8 := Vector.ofFn fun i => (c >>> (56 - 8 * i.val)).setWidth 8

/-- `CurStep(T) = T div STEP_SIZE` (R90). While LOCKED = 1, STEP_SIZE is never 0 (R22); the quotient by 0, which no run
computes, is free (log entry 13). -/
def curStep (t : BitVec 64) (stepSize : BitVec 32) : BitVec 64 :=
  if stepSize = 0#32 then Config.stepOfZeroSize t else BitVec.ofNat 64 (t.toNat / stepSize.toNat)

/-! ### Validation -/

/-- `Eq(c)`: CODE_IN_LEN is 6 and all six bytes are equal (R93). -/
def codeEq (s : State) (digits : Vector Byte 6) : Bool :=
  s.codeInLen = 6#8 && decide (∀ k : Fin 6, s.codeIn[k.val] = digits[k.val])

/-- The candidate steps `st + k`, `k = -TOL, ..., TOL`, in that order, without those below 0 or above 2^64 - 1 (R96). -/
def stepWindow (st : BitVec 64) (tol : BitVec 4) : List (BitVec 64) :=
  (List.range (2 * tol.toNat + 1)).filterMap fun j : Nat =>
    let c : Int := st.toNat - tol.toNat + j
    if 0 ≤ c ∧ c ≤ 2 ^ 64 - 1 then some (BitVec.ofInt 64 c) else none

/-- `m` of R99: some candidate's code equals the presented code. Every candidate is compared (R94); no result depends
on that, and timing is not modelled (log entry 17). -/
def windowMatch (s : State) (st : BitVec 64) : Bool :=
  (stepWindow st s.tol).any fun c => codeEq s (hotpOf (secretKey s) (pack64 c)).digits

end Sys2Proof.Machine
end

