-- ==== Sys2Proof/Machine/Ops.lean ====
section
/-! DEFINITION. The named operations: the register window (20_memory.md R44 to R51), issue and the dropping of writes
(10_state.md R38, R41, R42), completion and raising an error (R39, 60_exceptions.md R102), the ports' draws (R111 to
R113), the writes that commands make, and reset (70_reset_and_hazards.md R118, R119). -/
namespace Sys2Proof.Machine

/-! ### Raising an error and completing: OTPB's exception, and the end of every command -/

/-- `raise Error(e)`: the command ends with the error code; only STATUS changes (R14, R39, R102). OTPB saves no state and
enters no handler (R108). -/
def raiseError (e : ErrCode) (s : State) : State := { s with status := s.status.failed e }

/-- `complete()` with the match `m`: the command ends without error (R14, R39). -/
def complete (m : Bool) (s : State) : State := { s with status := s.status.completed m }

/-- Issue of the command word `w` (R38): the word is not decoded here. -/
def issue (w : Word) (s : State) : State := { s with pend := w, status := s.status.issued }

/-! ### The ports -/

/-- What the time port answers to the next request (R111): the environment's next sample, else the free value. -/
def nextTime (s : State) : TimeSample := s.timePort.headD (Config.timeSample s.timeDraws)

/-- One time sample is taken (R91): the port moves on. -/
def drawTime (s : State) : State := { s with timePort := s.timePort.tail, timeDraws := s.timeDraws + 1 }

/-- The next time sample passes R112's check: it is valid and not smaller than TLAST. -/
def clockOk (s : State) : Bool :=
  (nextTime s).valid && !(s.tlastValid && decide ((nextTime s).secs.toNat < s.tlast.toNat))

/-- What the entropy port answers to the next request (R113): the environment's next answer, else the free value. -/
def nextEntropy (s : State) : EntropySample := s.entropyPort.headD (Config.entropySample s.entropyDraws)

/-- `draw_entropy(n)` of R78: the `n` bytes, or nothing when the port reports failure. For `n = 0` no draw is made and
`ok = 1`. -/
def entropyBytes (n : Nat) (s : State) : Option (List Byte) :=
  if n = 0 then some []
  else if (nextEntropy s).ok then some ((nextEntropy s).bytes.toList.take n) else none

/-- The state after `draw_entropy(n)`: the port moves on, but for `n = 0` (R78). -/
def afterEntropy (n : Nat) (s : State) : State :=
  if n = 0 then s
  else { s with entropyPort := s.entropyPort.tail, entropyDraws := s.entropyDraws + 1 }

/-! ### What commands write -/

/-- TRUNC_VAL, CODE_VAL and CODE, the three result registers (R35). -/
def writeCode (c : TruncResult) (s : State) : State :=
  { s with truncVal := c.value, codeVal := c.codeVal, code := codeBytes c.digits }

/-- STEP_USED <- `st` (R33). -/
def writeStepUsed (st : BitVec 64) (s : State) : State := { s with stepUsed := st }

/-- TLAST <- `t`, TLAST_VALID <- 1 (R40). -/
def acceptTime (t : BitVec 64) (s : State) : State := { s with tlast := t, tlastValid := true }

/-- OUT and OUT_LEN (R29, R43). -/
def writeOut (t : List Byte) (s : State) : State :=
  { s with outBuf := fillBuf 64 t, outLen := BitVec.ofNat 7 t.length }

/-- LOCKED <- 1: the block is constructed (R75). -/
def setLocked (s : State) : State := { s with status := { s.status with locked := true } }

/-- SECRET and SECRET_LEN, as GENSEC writes them (R43, R78). -/
def writeSecret (t : List Byte) (s : State) : State :=
  { s with secret := fillBuf 64 t, secretLen := BitVec.ofNat 7 t.length }

/-- CTRB and CTRB_LEN, as PACK64 writes them (R31). -/
def writeCounterBytes (b : Vector Byte 8) (s : State) : State := { s with ctrb := b, ctrbLen := 8#4 }

/-! ### The register window -/

/-- Byte lane `k` of a bus word (R46). -/
def laneOf (v : Word) (k : Nat) : Byte := v.extractLsb' (8 * k) 8

/-- Word `j` of a buffer, in little-endian lane order (R46). -/
def bufWord {m : Nat} (b : Vector Byte (4 * m)) (j : Fin m) : Word :=
  b[4 * j.val + 3] ++ b[4 * j.val + 2] ++ b[4 * j.val + 1] ++ b[4 * j.val]

/-- The buffer with its word `j` replaced by `v`, in little-endian lane order (R46, R51 case 7). -/
def setBufWord {m : Nat} (b : Vector Byte (4 * m)) (j : Fin m) (v : Word) : Vector Byte (4 * m) :=
  Vector.ofFn fun k => if k.val / 4 = j.val then laneOf v (k.val % 4) else b[k]

/-- Bits 31:0 of a 64-bit register (R47). -/
def lowHalf (c : BitVec 64) : Word := c.extractLsb' 0 32

/-- Bits 63:32 of a 64-bit register (R47). -/
def highHalf (c : BitVec 64) : Word := c.extractLsb' 32 32

/-- The register at a word-aligned offset of the window: the map of R45. -/
def scalarWord (off : Nat) : Option WindowWord :=
  match off with
  | 0x000 => some .cmd
  | 0x004 => some .status
  | 0x008 => some .ctrl
  | 0x00C => some .stepSize
  | 0x010 => some .tol
  | 0x014 => some .randLen
  | 0x018 => some .secretLen
  | 0x01C => some .inLen
  | 0x020 => some .ctrbLen
  | 0x024 => some .codeInLen
  | 0x028 => some .counterLo
  | 0x02C => some .counterHi
  | 0x030 => some .stepLo
  | 0x034 => some .stepHi
  | 0x038 => some .stepUsedLo
  | 0x03C => some .stepUsedHi
  | 0x040 => some .truncVal
  | 0x044 => some .codeVal
  | 0x048 => some .outLen
  | _ => none

/-- The word of the window at a byte offset: none when the offset is not a multiple of 4 or is unmapped (R45, R49). -/
def windowWord (off : Nat) : Option WindowWord :=
  if off % 4 ≠ 0 then none
  else if h : 0x050 ≤ off ∧ off < 0x058 then some (.code ⟨(off - 0x050) / 4, by omega⟩)
  else if h : 0x058 ≤ off ∧ off < 0x060 then some (.codeIn ⟨(off - 0x058) / 4, by omega⟩)
  else if h : 0x060 ≤ off ∧ off < 0x068 then some (.ctrb ⟨(off - 0x060) / 4, by omega⟩)
  else if h : 0x070 ≤ off ∧ off < 0x084 then some (.digest ⟨(off - 0x070) / 4, by omega⟩)
  else if h : 0x100 ≤ off ∧ off < 0x140 then some (.secret ⟨(off - 0x100) / 4, by omega⟩)
  else if h : 0x140 ≤ off ∧ off < 0x168 then some (.inBuf ⟨(off - 0x140) / 4, by omega⟩)
  else if h : 0x180 ≤ off ∧ off < 0x1C0 then some (.outBuf ⟨(off - 0x180) / 4, by omega⟩)
  else scalarWord off

/-- The access class of each word (R18, R45). -/
def WindowWord.access : WindowWord → AccessClass
  | .cmd => .wo
  | .status => .w1c
  | .ctrl => .ctrl
  | .stepSize | .tol | .randLen | .secretLen | .secret _ => .rwl
  | .inLen | .ctrbLen | .codeInLen | .counterLo | .counterHi | .stepLo | .stepHi => .rw
  | .codeIn _ | .ctrb _ | .digest _ | .inBuf _ => .rw
  | .stepUsedLo | .stepUsedHi | .truncVal | .codeVal | .outLen | .code _ | .outBuf _ => .ro

/-- What a read of a mapped word returns (R50): reserved bits and CMD read 0. -/
def readWord (s : State) : WindowWord → Word
  | .cmd => 0#32
  | .status => s.status.word
  | .ctrl => (BitVec.ofBool s.ie).setWidth 32
  | .stepSize => s.stepSize
  | .tol => s.tol.setWidth 32
  | .randLen => s.randLen.setWidth 32
  | .secretLen => s.secretLen.setWidth 32
  | .inLen => s.inLen.setWidth 32
  | .ctrbLen => s.ctrbLen.setWidth 32
  | .codeInLen => s.codeInLen.setWidth 32
  | .counterLo => lowHalf s.counter
  | .counterHi => highHalf s.counter
  | .stepLo => lowHalf s.stepReg
  | .stepHi => highHalf s.stepReg
  | .stepUsedLo => lowHalf s.stepUsed
  | .stepUsedHi => highHalf s.stepUsed
  | .truncVal => s.truncVal.setWidth 32
  | .codeVal => s.codeVal.setWidth 32
  | .outLen => s.outLen.setWidth 32
  | .code j => bufWord (m := 2) s.code j
  | .codeIn j => bufWord (m := 2) s.codeIn j
  | .ctrb j => bufWord (m := 2) s.ctrb j
  | .digest j => bufWord (m := 5) s.digest j
  | .secret j => bufWord (m := 16) s.secret j
  | .inBuf j => bufWord (m := 10) s.inBuf j
  | .outBuf j => bufWord (m := 16) s.outBuf j

/-- A write that takes effect on a register or buffer word (R51 case 7): a register takes `v` masked to its field bits, a
buffer word its four bytes. Words that R51's other cases answer are left alone. -/
def storeWord (r : WindowWord) (v : Word) (s : State) : State :=
  match r with
  | .stepSize => { s with stepSize := v }
  | .tol => { s with tol := v.setWidth 4 }
  | .randLen => { s with randLen := v.setWidth 6 }
  | .secretLen => { s with secretLen := v.setWidth 7 }
  | .inLen => { s with inLen := v.setWidth 6 }
  | .ctrbLen => { s with ctrbLen := v.setWidth 4 }
  | .codeInLen => { s with codeInLen := v.setWidth 8 }
  | .counterLo => { s with counter := highHalf s.counter ++ v }
  | .counterHi => { s with counter := v ++ lowHalf s.counter }
  | .stepLo => { s with stepReg := highHalf s.stepReg ++ v }
  | .stepHi => { s with stepReg := v ++ lowHalf s.stepReg }
  | .codeIn j => { s with codeIn := setBufWord (m := 2) s.codeIn j v }
  | .ctrb j => { s with ctrb := setBufWord (m := 2) s.ctrb j v }
  | .digest j => { s with digest := setBufWord (m := 5) s.digest j v }
  | .secret j => { s with secret := setBufWord (m := 16) s.secret j v }
  | .inBuf j => { s with inBuf := setBufWord (m := 10) s.inBuf j v }
  | .cmd | .status | .ctrl | .stepUsedLo | .stepUsedHi | .truncVal | .codeVal | .outLen | .code _ | .outBuf _ => s

/-- A write dropped because BUSY = 1: WBUSY <- 1, nothing else (R41). -/
def dropBusy (s : State) : State := { s with status := { s.status with wbusy := true } }

/-- A write dropped because LOCKED = 1: WLOCK <- 1, nothing else (R42). -/
def dropLocked (s : State) : State := { s with status := { s.status with wlock := true } }

/-- A write of `v` to a mapped word: the cases of R51, each class's in their order. -/
def writeWord (r : WindowWord) (v : Word) (s : State) : State :=
  match r.access with
  | .wo => if s.status.busy then dropBusy s else issue v s
  | .w1c => { s with status := s.status.writeOneToClear v }
  | .ctrl => { s with ie := v.getLsbD 0 }
  | .ro => s
  | .rw => if s.status.busy then dropBusy s else storeWord r v s
  | .rwl =>
    if s.status.busy then dropBusy s
    else if s.status.locked then dropLocked s
    else storeWord r v s

/-- The block answers the access. -/
def respond (okay : Bool) (data : Option Word) (s : State) : State := { s with lastResp := some ⟨okay, data⟩ }

/-- An access at a byte offset of the window (R48 to R51): a 32-bit access to a mapped word is served with OKAY; every
other access is answered with ERROR and has no effect, and an ERROR read returns data 0 (R49). -/
def windowAccess (width : Width) (off : Nat) (op : BusOp) (s : State) : State :=
  match width, windowWord off, op with
  | .word, some r, .read => respond true (some (readWord s r)) s
  | .word, some r, .write v => respond true none (writeWord r v s)
  | _, _, .read => respond false (some 0#32) s
  | _, _, .write _ => respond false none s

/-- The byte offset of a platform address in the window at OTPB_BASE (R44). -/
def windowOffset (addr : Nat) : Option Nat :=
  if Config.otpbBase ≤ addr ∧ addr < Config.otpbBase + Config.windowSize then some (addr - Config.otpbBase) else none

/-- The block gives no answer. -/
def noAnswer (s : State) : State := { s with lastResp := none }

/-- A host access. While reset is asserted the block answers none (R118); an access outside the window is not the
block's (log entry 2). -/
def hostAccess (a : BusAccess) (s : State) : State :=
  if s.resetPin then noAnswer s
  else match windowOffset a.addr with
    | none => noAnswer s
    | some off => windowAccess a.width off a.op s

/-! ### Reset -/

/-- Every register at its reset value (R118); the outside's own course goes on (log entry 11). -/
def resetRegisters (s : State) : State :=
  { State.reset with
    resetPin := s.resetPin
    schedule := s.schedule
    timePort := s.timePort, timeDraws := s.timeDraws
    entropyPort := s.entropyPort, entropyDraws := s.entropyDraws }

/-- Reset is asserted: a pending command is abandoned with no further draw (R119). -/
def assertReset (s : State) : State := { resetRegisters s with resetPin := true }

/-- Reset is released: every register holds its reset value (R118). With no reset asserted there is nothing to release
(log entry 10). -/
def releaseReset (s : State) : State := if s.resetPin then { resetRegisters s with resetPin := false } else s

/-! ### Loading a command for the next step -/

/-- The state in which the very next step is the completion of command word `w`: issued (R38), reset not asserted, and
nothing scheduled before the engine (log entry 12). -/
def loadCommand (w : Word) (s : State) : State := { issue w s with resetPin := false, schedule := [] }

end Sys2Proof.Machine
end

