-- ==== Sys2Proof/Machine/Base32.lean ====
section
/-! DEFINITION. The meaning of B32ENC (40_base32.md). -/
namespace Sys2Proof.Machine

/-- B32ENC (R73): OUT and OUT_LEN get Base32 of `IN[0..IN_LEN)`; IN_LEN over 40 is INVALID_LENGTH. -/
def execB32enc (s : State) : Host.Outcome State Fault Refusal :=
  .next (
    if Config.inMax < s.inLen.toNat then raiseError .invalidLength s
    else complete false (writeOut (base32 (inputBytes s)) s))

end Sys2Proof.Machine
end

