-- ==== Sys2Proof/Machine/Construction.lean ====
section
/-! DEFINITION. The meanings of LOCK and GENSEC (41_construction.md). -/
namespace Sys2Proof.Machine

/-- LOCK (R77): construct with the secret the host supplied. -/
def execLock (s : State) : Host.Outcome State Fault Refusal :=
  .next (
    if s.status.locked then raiseError .alreadyConstructed s
    else if s.stepSize = 0#32 then raiseError .invalidConfig s
    else if Config.secretMax < s.secretLen.toNat then raiseError .invalidLength s
    else complete false (setLocked s))

/-- GENSEC (R78): generate a secret from RAND_LEN random bytes and construct. The draw comes after every check (R103;
log entry 7). -/
def execGensec (s : State) : Host.Outcome State Fault Refusal :=
  .next (
    if s.status.locked then raiseError .alreadyConstructed s
    else if s.stepSize = 0#32 then raiseError .invalidConfig s
    else if Config.randMax < s.randLen.toNat then raiseError .invalidConfig s
    else match entropyBytes s.randLen.toNat s with
      | none => raiseError .randomSourceExhausted (afterEntropy s.randLen.toNat s)
      | some r => complete false (setLocked (writeSecret (base32 r) (afterEntropy s.randLen.toNat s))))

end Sys2Proof.Machine
end

