-- ==== Sys2Proof/Machine/Hotp.lean ====
section
/-! DEFINITION. The meanings of TRUNC and HOTP (42_hotp_truncation.md). -/
namespace Sys2Proof.Machine

/-- TRUNC (R84): dynamic truncation of DIGEST; it needs no construction and raises no error. -/
def execTrunc (s : State) : Host.Outcome State Fault Refusal :=
  .next (complete false (writeCode (truncDigest s.digest) s))

/-- HOTP (R86): the code of the counter bytes in CTRB. The digest is stored nowhere (R34). -/
def execHotp (s : State) : Host.Outcome State Fault Refusal :=
  .next (
    if !s.status.locked then raiseError .notConstructed s
    else if s.ctrbLen ≠ 8#4 then raiseError .invalidCounterLength s
    else complete false (writeCode (hotpOf (secretKey s) s.ctrb) s))

end Sys2Proof.Machine
end

