-- ==== Sys2Proof/Machine/Totp.lean ====
section
/-! DEFINITION. The meanings of PACK64, TOTP and TOTP.S (43_totp_counter.md). -/
namespace Sys2Proof.Machine

/-- PACK64 (R89): CTRB gets the big-endian bytes of COUNTER, CTRB_LEN 8. -/
def execPack64 (s : State) : Host.Outcome State Fault Refusal :=
  .next (complete false (writeCounterBytes (pack64 s.counter) s))

/-- TOTP, S = 0 (R92): the code of the step of one checked time sample (R91, R112). -/
def execTotp (s : State) : Host.Outcome State Fault Refusal :=
  .next (
    if !s.status.locked then raiseError .notConstructed s
    else if !clockOk s then raiseError .clockUnavailable (drawTime s)
    else
      let st := curStep (nextTime s).secs s.stepSize
      complete false (acceptTime (nextTime s).secs (writeStepUsed st
        (writeCode (hotpOf (secretKey s) (pack64 st)) (drawTime s)))))

/-- TOTP.S, S = 1 (R92): the code of the step in register STEP; the clock is not sampled and cannot fail. -/
def execTotpS (s : State) : Host.Outcome State Fault Refusal :=
  .next (
    if !s.status.locked then raiseError .notConstructed s
    else complete false (writeStepUsed s.stepReg (writeCode (hotpOf (secretKey s) (pack64 s.stepReg)) s)))

end Sys2Proof.Machine
end

