-- ==== Sys2Proof/Machine/Validation.lean ====
section
/-! DEFINITION. The meanings of VTOTP and VHOTP (44_validation.md). -/
namespace Sys2Proof.Machine

/-- VTOTP (R99): MATCH says whether the presented code is a code of the window around the step of one checked time sample.
No code is stored (R95). -/
def execVtotp (s : State) : Host.Outcome State Fault Refusal :=
  .next (
    if !s.status.locked then raiseError .notConstructed s
    else if !clockOk s then raiseError .clockUnavailable (drawTime s)
    else
      let st := curStep (nextTime s).secs s.stepSize
      complete (windowMatch s st) (acceptTime (nextTime s).secs (writeStepUsed st (drawTime s))))

/-- VHOTP (R100): MATCH says whether the presented code is the code of the counter bytes in CTRB. -/
def execVhotp (s : State) : Host.Outcome State Fault Refusal :=
  .next (
    if !s.status.locked then raiseError .notConstructed s
    else if s.ctrbLen ≠ 8#4 then raiseError .invalidCounterLength s
    else complete (codeEq s (hotpOf (secretKey s) s.ctrb).digits) s)

end Sys2Proof.Machine
end

