-- ==== Sys2Proof/Machine/Dispatch.lean ====
section
/-! DEFINITION. `exec`: the engine's Execute and completion of one command (10_state.md R39), one arm per command. -/
namespace Sys2Proof.Machine

def exec (i : Instr) (s : State) : Host.Outcome State Fault Refusal :=
  match i with
  | .b32enc => Sys2Proof.Machine.execB32enc s
  | .lock => Sys2Proof.Machine.execLock s
  | .gensec => Sys2Proof.Machine.execGensec s
  | .trunc => Sys2Proof.Machine.execTrunc s
  | .hotp => Sys2Proof.Machine.execHotp s
  | .pack64 => Sys2Proof.Machine.execPack64 s
  | .totp => Sys2Proof.Machine.execTotp s
  | .totpS => Sys2Proof.Machine.execTotpS s
  | .vtotp => Sys2Proof.Machine.execVtotp s
  | .vhotp => Sys2Proof.Machine.execVhotp s

end Sys2Proof.Machine
end

