-- ==== Sys2Proof/Machine/Engine.lean ====
section
/-! DEFINITION. The engine step (10_state.md R39) and one event of the block's total order (20_memory.md R53). -/
namespace Sys2Proof.Machine

/-- The engine step: enabled exactly when BUSY = 1 (R39) and reset is not asserted (R119). An illegal word raises
ILLEGAL_CMD (R60). When it is not enabled nothing happens (log entry 4). -/
def engineStep (s : State) : Host.Outcome State Fault Refusal :=
  if s.resetPin || !s.status.busy then .next s
  else match decode s.pend with
    | .illegal _ => .next (raiseError .illegalCmd s)
    | .instr i => exec i s

/-- One event. -/
def runEvent (e : Event) (s : State) : Host.Outcome State Fault Refusal :=
  match e with
  | .access a => .next (hostAccess a s)
  | .engine => engineStep s
  | .resetAssert => .next (assertReset s)
  | .resetRelease => .next (releaseReset s)

/-- The next event of the schedule; when it is empty, the engine's step, which is so never put off for ever (R128;
log entry 3). -/
def advance (s : State) : Host.Outcome State Fault Refusal :=
  match s.schedule with
  | [] => engineStep s
  | e :: rest => runEvent e { s with schedule := rest }

end Sys2Proof.Machine
end

