-- ==== Sys2Proof/Machine/Step.lean ====
section
/-! DEFINITION. One step of the machine, and the state in which the next step runs a given command word. -/
namespace Sys2Proof.Machine

/-- One step: the next host access, engine step or reset event of the block's one order (20_memory.md R53). -/
def step (s : State) : Host.Outcome State Fault Refusal := advance s

/-- `s` with the command word `w` (its low `nbits` bits, every bit above them 0) pending, so that the very next step is
its completion: OTPB fetches nothing (R55, R121), and a command is what a host wrote to CMD (log entry 12). -/
def State.withFetchWord (s : State) (nbits w : Nat) : State := loadCommand (BitVec.ofNat 32 (w % 2 ^ nbits)) s

end Sys2Proof.Machine
end

