-- ==== Sys2Proof/Safety.lean ====
section
/-! DEFINITION. What claims about OTPB are stated in: the invariant of its states, the spec's arithmetic written as plain
number formulas apart from the model's own functions, R101's causes in R103's order, R18's field masks, and the host's
and the engine's turns. -/
namespace Sys2Proof.Machine

/-! ### Whose turn it is -/

/-- The next step is the engine's, and it is enabled: BUSY = 1 (R39), reset not asserted, and no access comes first. -/
def State.EngineTurn (s : State) : Prop :=
  s.resetPin = false ∧ s.status.busy = true ∧ (s.schedule = [] ∨ ∃ rest, s.schedule = .engine :: rest)

/-- The state with the schedule's first event taken. -/
def State.popped (s : State) : State := { s with schedule := s.schedule.tail }

/-- The next step is the host's access `(width, OTPB_BASE + off, op)`, and the block is not held in reset. -/
def State.HostTurn (s : State) (width : Width) (off : Nat) (op : BusOp) (rest : List Event) : Prop :=
  s.resetPin = false ∧ s.schedule = .access ⟨width, Config.otpbBase + off, op⟩ :: rest

/-- The block is not held in reset and the outside will not assert it. -/
def State.NoReset (s : State) : Prop := s.resetPin = false ∧ Event.resetAssert ∉ s.schedule

/-! ### How a command ends -/

/-- R102: a command that raises the error `e` writes only STATUS: ERR = code, MATCH = 0, BUSY = 0, DONE = 1. -/
abbrev State.afterError (e : ErrCode) (s : State) : State :=
  { s with status := { s.status with busy := false, done := true, matched := false, err := e } }

/-- R39: STATUS after a completion without error, with the match `m`. -/
abbrev Status.afterOk (m : Bool) (f : Status) : Status :=
  { f with busy := false, done := true, matched := m, err := .ok }

/-! ### The spec's arithmetic, as numbers -/

/-- The string `SECRET[0..SECRET_LEN)` for SECRET_LEN at most 64 (R26). -/
def secretString (s : State) : List Byte := s.secret.toList.take s.secretLen.toNat

/-- The 31-bit value of R80: the four bytes at the offset `D[19] mod 16`, big-endian, modulo 2^31. -/
def specTrunc (d : Vector Byte 20) : Nat :=
  have h : d[19].toNat % 16 < 16 := Nat.mod_lt _ (by decide)
  (d[d[19].toNat % 16].toNat * 2 ^ 24 + d[d[19].toNat % 16 + 1].toNat * 2 ^ 16
    + d[d[19].toNat % 16 + 2].toNat * 2 ^ 8 + d[d[19].toNat % 16 + 3].toNat) % 2 ^ 31

/-- The k-th ASCII digit of the code of a truncated value (R81, R82). -/
def specDigit (v k : Nat) : Nat := 0x30 + v % 1000000 / 10 ^ (5 - k) % 10

/-- The eight bytes of `c`, most significant first (R87). -/
def bigEndian8 (c : Nat) : Vector Byte 8 := Vector.ofFn fun i => BitVec.ofNat 8 (c / 2 ^ (56 - 8 * i.val) % 256)

/-- TRUNC_VAL, CODE_VAL and CODE hold the truncation of the digest `d` (R35, R80 to R82, R43). -/
def HoldsCodeOf (s : State) (d : Vector Byte 20) : Prop :=
  s.truncVal.toNat = specTrunc d ∧ s.codeVal.toNat = specTrunc d % 1000000
    ∧ (∀ k : Fin 6, s.code[k.val].toNat = specDigit (specTrunc d) k.val) ∧ s.code[6] = 0#8 ∧ s.code[7] = 0#8

/-- The presented code is the code of the digest `d`: six bytes long, and equal digit by digit (R93). -/
def PresentsCodeOf (s : State) (d : Vector Byte 20) : Prop :=
  s.codeInLen = 6#8 ∧ ∀ k : Fin 6, s.codeIn[k.val].toNat = specDigit (specTrunc d) k.val

/-- The number that a byte string writes in base 256, first byte first (R65: most significant bit first). -/
def numberOfBytes (b : List Byte) : Nat := b.foldl (fun n x => n * 256 + x.toNat) 0

/-- The value of a Base32 character (R67, read from character to value). -/
def valueOfChar (c : Byte) : Nat := if c.toNat ≤ 0x37 then c.toNat - 0x32 + 26 else c.toNat - 0x41

/-- The number that Base32 characters write in base 32, first character first (R66). -/
def numberOfChars (t : List Byte) : Nat := t.foldl (fun n c => n * 32 + valueOfChar c) 0

/-- `'A'`..`'Z'` or `'2'`..`'7'` (R15, R67). -/
def isBase32Char (c : Byte) : Bool :=
  (0x41 ≤ c.toNat && c.toNat ≤ 0x5A) || (0x32 ≤ c.toNat && c.toNat ≤ 0x37)

/-! ### The time sample -/

/-- R112's check of a sample: valid, and not smaller than TLAST when TLAST_VALID = 1. -/
def SampleAccepted (s : State) (x : TimeSample) : Prop :=
  x.valid = true ∧ (s.tlastValid = true → s.tlast.toNat ≤ x.secs.toNat)

/-! ### Errors: R101's causes in R103's order -/

/-- The cause of each error code, command by command (R101). -/
def cause (i : Instr) (s : State) : ErrCode → Prop
  | .ok => False
  | .illegalCmd => False
  | .notConstructed => (i = .hotp ∨ i = .totp ∨ i = .totpS ∨ i = .vtotp ∨ i = .vhotp) ∧ s.status.locked = false
  | .alreadyConstructed => (i = .lock ∨ i = .gensec) ∧ s.status.locked = true
  | .invalidConfig => (i = .lock ∨ i = .gensec) ∧ (s.stepSize = 0#32 ∨ i = .gensec ∧ 40 < s.randLen.toNat)
  | .invalidLength => i = .b32enc ∧ 40 < s.inLen.toNat ∨ i = .lock ∧ 64 < s.secretLen.toNat
  | .invalidCounterLength => (i = .hotp ∨ i = .vhotp) ∧ s.ctrbLen ≠ 8#4
  | .clockUnavailable => (i = .totp ∨ i = .vtotp) ∧ ¬ SampleAccepted s (nextTime s)
  | .randomSourceExhausted => i = .gensec ∧ s.randLen ≠ 0#6 ∧ (nextEntropy s).ok = false

/-- The priority class of each error code (R103). -/
def errorRank : ErrCode → Nat
  | .illegalCmd => 1
  | .notConstructed | .alreadyConstructed => 2
  | .invalidConfig => 3
  | .invalidLength | .invalidCounterLength => 4
  | .clockUnavailable => 5
  | .randomSourceExhausted => 6
  | .ok => 7

/-! ### The register window -/

/-- The field bits of each word that a host write can change (R18). -/
def fieldMask : WindowWord → Word
  | .tol | .ctrbLen => 0xF#32
  | .randLen | .inLen => 0x3F#32
  | .secretLen => 0x7F#32
  | .codeInLen => 0xFF#32
  | _ => 0xFFFFFFFF#32

/-- The words of class RO (R18, R51 case 4). -/
def WindowWord.ReadOnly (r : WindowWord) : Prop :=
  r = .stepUsedLo ∨ r = .stepUsedHi ∨ r = .truncVal ∨ r = .codeVal ∨ r = .outLen ∨ (∃ j, r = .code j)
    ∨ ∃ j, r = .outBuf j

/-- The words of class RWL: STEP_SIZE, TOL, RAND_LEN, SECRET_LEN and SECRET (R42). -/
def WindowWord.LockProtected (r : WindowWord) : Prop :=
  r = .stepSize ∨ r = .tol ∨ r = .randLen ∨ r = .secretLen ∨ ∃ j, r = .secret j

/-- The words of class RW other than CTRL (R18). -/
def WindowWord.HostWritable (r : WindowWord) : Prop :=
  r = .inLen ∨ r = .ctrbLen ∨ r = .codeInLen ∨ r = .counterLo ∨ r = .counterHi ∨ r = .stepLo ∨ r = .stepHi
    ∨ (∃ j, r = .codeIn j) ∨ (∃ j, r = .ctrb j) ∨ (∃ j, r = .digest j) ∨ ∃ j, r = .inBuf j

/-! ### What a command reads and writes (R58) -/

/-- The two states hold the same secret (R26: bytes past SECRET_LEN are no part of it). -/
def SameSecret (s s' : State) : Prop := s.secretLen = s'.secretLen ∧ secretString s = secretString s'

/-- The two states present the same code as far as a comparison reads it (R93). -/
def SamePresented (s s' : State) : Prop :=
  s.codeInLen = s'.codeInLen ∧ ∀ k : Fin 6, s.codeIn[k.val] = s'.codeIn[k.val]

/-- The two states give the same checked time sample: the draw, TLAST and TLAST_VALID (R112). -/
def SameClock (s s' : State) : Prop :=
  nextTime s = nextTime s' ∧ s.tlast = s'.tlast ∧ s.tlastValid = s'.tlastValid

/-- The two states agree on all that the command reads: the "reads" column of R58. -/
def SameReads (i : Instr) (s s' : State) : Prop :=
  match i with
  | .b32enc => s.inLen = s'.inLen ∧ s.inBuf.toList.take s.inLen.toNat = s'.inBuf.toList.take s'.inLen.toNat
  | .lock => s.status.locked = s'.status.locked ∧ s.stepSize = s'.stepSize ∧ s.secretLen = s'.secretLen
  | .gensec =>
    s.status.locked = s'.status.locked ∧ s.stepSize = s'.stepSize ∧ s.randLen = s'.randLen
      ∧ nextEntropy s = nextEntropy s'
  | .trunc => s.digest = s'.digest
  | .hotp => s.status.locked = s'.status.locked ∧ SameSecret s s' ∧ s.ctrbLen = s'.ctrbLen ∧ s.ctrb = s'.ctrb
  | .pack64 => s.counter = s'.counter
  | .totp =>
    s.status.locked = s'.status.locked ∧ SameSecret s s' ∧ s.stepSize = s'.stepSize ∧ SameClock s s'
  | .totpS => s.status.locked = s'.status.locked ∧ SameSecret s s' ∧ s.stepReg = s'.stepReg
  | .vtotp =>
    s.status.locked = s'.status.locked ∧ SameSecret s s' ∧ s.stepSize = s'.stepSize ∧ s.tol = s'.tol
      ∧ SamePresented s s' ∧ SameClock s s'
  | .vhotp =>
    s.status.locked = s'.status.locked ∧ SameSecret s s' ∧ s.ctrbLen = s'.ctrbLen ∧ s.ctrb = s'.ctrb
      ∧ SamePresented s s'

/-- The three result registers agree (R35). -/
def SameCode (t t' : State) : Prop := t.truncVal = t'.truncVal ∧ t.codeVal = t'.codeVal ∧ t.code = t'.code

/-- The two states agree on all that the command writes on success: the "writes on success" column of R58. -/
def SameWrites (i : Instr) (t t' : State) : Prop :=
  match i with
  | .b32enc => t.outBuf = t'.outBuf ∧ t.outLen = t'.outLen
  | .lock => t.status.locked = t'.status.locked
  | .gensec => t.secret = t'.secret ∧ t.secretLen = t'.secretLen ∧ t.status.locked = t'.status.locked
  | .trunc | .hotp => SameCode t t'
  | .pack64 => t.ctrb = t'.ctrb ∧ t.ctrbLen = t'.ctrbLen
  | .totp => SameCode t t' ∧ t.stepUsed = t'.stepUsed ∧ t.tlast = t'.tlast ∧ t.tlastValid = t'.tlastValid
  | .totpS => SameCode t t' ∧ t.stepUsed = t'.stepUsed
  | .vtotp => t.stepUsed = t'.stepUsed ∧ t.tlast = t'.tlast ∧ t.tlastValid = t'.tlastValid
  | .vhotp => True

/-! ### Reset values -/

/-- Every register holds its reset value of R118. -/
def HoldsResetValues (s : State) : Prop :=
  s.status.word = 0#32 ∧ s.ie = false ∧ s.stepSize = 30#32 ∧ s.tol = 1#4 ∧ s.randLen = 20#6
    ∧ s.secretLen = 0#7 ∧ (∀ k : Fin 64, s.secret[k.val] = 0#8)
    ∧ s.inLen = 0#6 ∧ (∀ k : Fin 40, s.inBuf[k.val] = 0#8) ∧ s.outLen = 0#7 ∧ (∀ k : Fin 64, s.outBuf[k.val] = 0#8)
    ∧ s.counter = 0#64 ∧ s.ctrbLen = 0#4 ∧ (∀ k : Fin 8, s.ctrb[k.val] = 0#8) ∧ s.stepReg = 0#64 ∧ s.stepUsed = 0#64
    ∧ (∀ k : Fin 20, s.digest[k.val] = 0#8) ∧ s.truncVal = 0#31 ∧ s.codeVal = 0#20 ∧ (∀ k : Fin 8, s.code[k.val] = 0#8)
    ∧ s.codeInLen = 0#8 ∧ (∀ k : Fin 8, s.codeIn[k.val] = 0#8) ∧ s.pend = 0#32 ∧ s.tlast = 0#64 ∧ s.tlastValid = false

/-! ### The invariant -/

/-- While LOCKED = 1, STEP_SIZE is never 0 and SECRET_LEN is at most 64 (R22, R77, R78). -/
abbrev State.ConfigOk (s : State) : Prop := s.status.locked = true → s.stepSize ≠ 0#32 ∧ s.secretLen.toNat ≤ 64

/-- OUT_LEN is a Base32 length of at most 64, and OUT is 0x00 past it (R29, R43, R70). -/
abbrev State.OutOk (s : State) : Prop :=
  s.outLen.toNat ≤ 64 ∧ s.outLen.toNat % 8 = 0 ∧ ∀ k : Fin 64, s.outLen.toNat ≤ k.val → s.outBuf[k.val] = 0#8

/-- CODE_VAL is TRUNC_VAL mod 1_000_000, `CODE[6..7]` are 0x00, and CODE is the six digits of CODE_VAL, or still at its
reset value together with TRUNC_VAL (R81, R82, R43, R118). -/
abbrev State.CodeOk (s : State) : Prop :=
  s.codeVal.toNat = s.truncVal.toNat % 1000000 ∧ s.code[6] = 0#8 ∧ s.code[7] = 0#8
    ∧ ((s.truncVal = 0#31 ∧ ∀ k : Fin 6, s.code[k.val] = 0#8)
      ∨ ∀ k : Fin 6, s.code[k.val].toNat = 0x30 + s.codeVal.toNat / 10 ^ (5 - k.val) % 10)

/-- BUSY and DONE are not both 1 (R38, R39); MATCH = 1 only without an error and after construction (R20); WLOCK = 1
only after construction (R42). -/
abbrev State.FlagsOk (s : State) : Prop :=
  (s.status.busy = true → s.status.done = false)
    ∧ (s.status.matched = true → s.status.err = .ok ∧ s.status.locked = true)
    ∧ (s.status.wlock = true → s.status.locked = true)

/-- TLAST is 0 until a sample was accepted, and no sample is accepted and no step used before construction (R40, R92,
R99). -/
abbrev State.ClockOk (s : State) : Prop :=
  (s.tlastValid = false → s.tlast = 0#64) ∧ (s.status.locked = false → s.tlastValid = false ∧ s.stepUsed = 0#64)

/-- While reset is asserted every register is at its reset value, the model's choice (log entry 10: R118 gives the values at
release), and no access is answered (R118). -/
abbrev State.ResetOk (s : State) : Prop := s.resetPin = true → s = resetRegisters s

/-- What every step keeps. -/
abbrev State.Inv (s : State) : Prop :=
  s.ConfigOk ∧ s.OutOk ∧ s.CodeOk ∧ s.FlagsOk ∧ s.ClockOk ∧ s.ResetOk

end Sys2Proof.Machine
end

