-- ==== Sys2Proof/Certificates/Slice0/Obligations.lean ====
section
/-! DEFINITION. What is to be proved of OTPB, statement by statement, from the numbered rules of spec/. A statement whose
rule the spec marks as its own inference, or that rests on a choice of the model, says so. The fields `schedule`,
`lastResp`, `timePort`, `timeDraws`, `entropyPort` and `entropyDraws` in a statement are the model's record of the outside
(log entries 3, 5, 6, 9), not registers. -/

open Sys2Proof Sys2Proof.Machine

/-! ## Encoding -/

/-- R59, R61: the decoder and the encoder agree on every one of the 2^32 words: a word decodes to a command exactly when
it is that command's word. -/
def Obligations.DecodeAndEncodeAgree : Prop :=
  ∀ (w : Word) (i : Instr), decode w = .instr i ↔ w = encode i

/-- R59: the words of the opcode map, written out, decode to their commands, and the reserved OP values to none. -/
def Obligations.OpcodeMapWords : Prop :=
  decode 0x00000001#32 = .instr .b32enc ∧ decode 0x00000002#32 = .instr .lock
    ∧ decode 0x00000003#32 = .instr .gensec ∧ decode 0x00000004#32 = .instr .trunc
    ∧ decode 0x00000005#32 = .instr .hotp ∧ decode 0x00000006#32 = .instr .pack64
    ∧ decode 0x00000007#32 = .instr .totp ∧ decode 0x00000017#32 = .instr .totpS
    ∧ decode 0x00000008#32 = .instr .vtotp ∧ decode 0x00000009#32 = .instr .vhotp
    ∧ ∀ op : Fin 16, op.val = 0 ∨ 10 ≤ op.val → (decode (BitVec.ofNat 32 op.val)).toOption = none

/-- R60: which words are illegal; an illegal word is accepted at issue as every word is, and its completion raises
ILLEGAL_CMD: ERR = 1 and no other register changes. -/
def Obligations.IllegalWordsRaiseIllegalCmd : Prop :=
  (∀ w : Word, (decode w).toOption = none ↔
    (w.toNat % 16 = 0 ∨ 10 ≤ w.toNat % 16) ∨ w.toNat / 32 ≠ 0 ∨ (w.getLsbD 4 = true ∧ w.toNat % 16 ≠ 7))
  ∧ (∀ (s : State) (w : Word) (rest : List Event), s.HostTurn .word 0x000 (.write w) rest →
      s.status.busy = false → (decode w).toOption = none →
      step s = .next { s with
        pend := w, status := { s.status with busy := true, done := false },
        schedule := rest, lastResp := some ⟨true, none⟩ })
  ∧ (∀ s : State, s.EngineTurn → (decode s.pend).toOption = none →
      step s = .next (s.popped.afterError .illegalCmd))
  ∧ ErrCode.illegalCmd.code = 1#4

/-! ## The sequencer -/

/-- R39: when it is the engine's turn and PEND decodes to a command, a step is that command's execution, at the state
with the schedule's event taken. Around it: an engine event does nothing while BUSY = 0 or reset is asserted, an access
event is the host's access, an idle machine with an empty schedule stays as it is (model's choices, log entries 3 and 4),
and `withFetchWord` makes the very next step run the command (log entry 12). -/
def Obligations.StepRunsDecodedCommand : Prop :=
  (∀ (s : State) (i : Instr), s.EngineTurn → decode s.pend = .instr i → step s = exec i s.popped)
  ∧ (∀ s : State, (s.schedule = [] ∨ ∃ rest, s.schedule = .engine :: rest) →
      s.status.busy = false ∨ s.resetPin = true → step s = .next s.popped)
  ∧ (∀ (s : State) (a : BusAccess) (rest : List Event), s.schedule = .access a :: rest →
      step s = .next (hostAccess a s.popped))
  ∧ (∀ (s : State) (w : Nat) (i : Instr), decodeTableWord 32 w = some i →
      step (s.withFetchWord 32 w) = exec i (s.withFetchWord 32 w))

/-- R38: a write of `w` to CMD while BUSY = 0 sets PEND, BUSY and DONE and nothing else, whatever `w`; while BUSY = 1 it is
dropped (WBUSY). Issue does not decode: an illegal word is accepted and completes with ILLEGAL_CMD. -/
def Obligations.CmdWriteIssues : Prop :=
  ∀ (s : State) (w : Word) (rest : List Event), s.HostTurn .word 0x000 (.write w) rest →
    (s.status.busy = false →
      step s = .next { s with
        pend := w, status := { s.status with busy := true, done := false },
        schedule := rest, lastResp := some ⟨true, none⟩ })
    ∧ (s.status.busy = true →
      step s = .next { s with
        status := { s.status with wbusy := true }, schedule := rest, lastResp := some ⟨true, none⟩ })
    ∧ (s.status.busy = false → (decode w).toOption = none → rest = [] →
      ∃ t u, step s = .next t ∧ step t = .next u ∧ u.status.err = .illegalCmd)

/-- R101, R103: the numeric codes; every command ends with error code OK exactly when no cause of R101 applies, else with
a cause that applies and that R103 puts first; no port is drawn once an earlier check has failed; an error records only
its code, in STATUS; an illegal word comes before all of them. -/
def Obligations.ErrorCausesAndPriority : Prop :=
  (ErrCode.ok.code = 0#4 ∧ ErrCode.illegalCmd.code = 1#4 ∧ ErrCode.invalidCounterLength.code = 2#4
    ∧ ErrCode.clockUnavailable.code = 3#4 ∧ ErrCode.randomSourceExhausted.code = 4#4
    ∧ ErrCode.notConstructed.code = 5#4 ∧ ErrCode.alreadyConstructed.code = 6#4
    ∧ ErrCode.invalidConfig.code = 7#4 ∧ ErrCode.invalidLength.code = 8#4
    ∧ ∀ e : ErrCode, e.code.toNat ≤ 8)
  ∧ (∀ (i : Instr) (s : State), ∃ t, exec i s = .next t
      ∧ (t.status.err = .ok ↔ ∀ e, ¬ cause i s e)
      ∧ (t.status.err ≠ .ok → cause i s t.status.err)
      ∧ (∀ e, cause i s e → errorRank t.status.err ≤ errorRank e)
      ∧ ¬ (cause i s .invalidLength ∧ cause i s .invalidCounterLength)
      ∧ (errorRank t.status.err ≤ 4 → t.timePort = s.timePort ∧ t.timeDraws = s.timeDraws
          ∧ t.entropyPort = s.entropyPort ∧ t.entropyDraws = s.entropyDraws)
      ∧ (errorRank t.status.err ≤ 5 → t.entropyPort = s.entropyPort ∧ t.entropyDraws = s.entropyDraws)
      ∧ (t.status.err ≠ .ok → t.pend = s.pend ∧ ∀ r, r ≠ .status → readWord t r = readWord s r))
  ∧ (∀ s : State, s.EngineTurn → (decode s.pend).toOption = none →
      ∃ t, step s = .next t ∧ t.status.err = .illegalCmd ∧ t.timeDraws = s.timeDraws
        ∧ t.entropyDraws = s.entropyDraws)

/-- R102: a command that raises an error writes only STATUS; every register is left as it was. (The outside's ports are no
registers: they have moved on if the command drew.) An illegal word's error as well; it draws nothing. -/
def Obligations.ErrorChangesOnlyStatus : Prop :=
  (∀ (i : Instr) (s t : State), exec i s = .next t → t.status.err ≠ .ok →
    t = { s.afterError t.status.err with
          timePort := t.timePort, timeDraws := t.timeDraws
          entropyPort := t.entropyPort, entropyDraws := t.entropyDraws })
  ∧ (∀ s : State, s.EngineTurn → (decode s.pend).toOption = none →
      step s = .next (s.popped.afterError .illegalCmd))

/-- R39, R20: every command completes with BUSY = 0 and DONE = 1; MATCH = 1 only for VTOTP or VHOTP without error; LOCKED
is set only by LOCK or GENSEC without error and cleared by none; WBUSY and WLOCK are left alone. -/
def Obligations.CompletionFlags : Prop :=
  ∀ (i : Instr) (s : State), ∃ t, exec i s = .next t
    ∧ t.status.busy = false ∧ t.status.done = true
    ∧ (t.status.matched = true → (i = .vtotp ∨ i = .vhotp) ∧ t.status.err = .ok)
    ∧ (t.status.locked = true ↔
        s.status.locked = true ∨ ((i = .lock ∨ i = .gensec) ∧ t.status.err = .ok))
    ∧ t.status.wbusy = s.status.wbusy ∧ t.status.wlock = s.status.wlock

/-- R108 (the spec's own inference), R102: no step from any state stops the machine. -/
def Obligations.EveryStepAnswersNext : Prop := ∀ s : State, ∃ t, step s = .next t

/-! ## Base32 and construction -/

/-- R73: B32ENC. IN_LEN over 40 is INVALID_LENGTH; otherwise OUT is Base32 of `IN[0..IN_LEN)` with 0x00 past it, OUT_LEN its
length `8 * ceil(IN_LEN / 5)`, and nothing but OUT, OUT_LEN and STATUS changes, LOCKED or not. -/
def Obligations.B32encWritesBase32 : Prop :=
  encode .b32enc = 0x00000001#32 ∧ ∀ s : State,
    (40 < s.inLen.toNat → exec .b32enc s = .next (s.afterError .invalidLength))
    ∧ (s.inLen.toNat ≤ 40 → ∃ t, exec .b32enc s = .next t
        ∧ t = { s with outBuf := t.outBuf, outLen := t.outLen, status := s.status.afterOk false }
        ∧ t.outLen.toNat = 8 * ((s.inLen.toNat + 4) / 5)
        ∧ t.outBuf.toList = base32 (s.inBuf.toList.take s.inLen.toNat)
            ++ List.replicate (64 - 8 * ((s.inLen.toNat + 4) / 5)) 0#8)

/-- R65 to R68, read as one equation of numbers: the characters of B32ENC's output, as digits of base 32, write the same
number as the input bytes, shifted by the zero bits that fill the last group; they are alphabet characters; and `'='`
fills the last block of eight. -/
def Obligations.B32encPreservesTheNumber : Prop :=
  ∀ s : State, s.inLen.toNat ≤ 40 → ∃ t, exec .b32enc s = .next t
    ∧ (let n := s.inLen.toNat
       let g := (8 * n + 4) / 5
       let chars := t.outBuf.toList.take g
       numberOfChars chars = numberOfBytes (s.inBuf.toList.take n) * 2 ^ (5 * g - 8 * n)
        ∧ (∀ c ∈ chars, isBase32Char c = true)
        ∧ (∀ k : Fin 64, g ≤ k.val → k.val < 8 * ((n + 4) / 5) → t.outBuf[k.val] = 0x3D#8))

/-- R77: LOCK, its checks in order, and its only effect. -/
def Obligations.LockConstructs : Prop :=
  encode .lock = 0x00000002#32 ∧ ∀ s : State,
    (s.status.locked = true → exec .lock s = .next (s.afterError .alreadyConstructed))
    ∧ (s.status.locked = false → s.stepSize = 0#32 → exec .lock s = .next (s.afterError .invalidConfig))
    ∧ (s.status.locked = false → s.stepSize ≠ 0#32 → 64 < s.secretLen.toNat →
        exec .lock s = .next (s.afterError .invalidLength))
    ∧ (s.status.locked = false → s.stepSize ≠ 0#32 → s.secretLen.toNat ≤ 64 →
        exec .lock s = .next { s with status := { s.status.afterOk false with locked := true } })

/-- R78: GENSEC, its checks in order, the draw after them, and its effects: SECRET is Base32 of the drawn bytes with 0x00
past it. For RAND_LEN = 0 no draw is made. -/
def Obligations.GensecConstructs : Prop :=
  encode .gensec = 0x00000003#32 ∧ ∀ s : State,
    (s.status.locked = true → exec .gensec s = .next (s.afterError .alreadyConstructed))
    ∧ (s.status.locked = false → s.stepSize = 0#32 ∨ 40 < s.randLen.toNat →
        exec .gensec s = .next (s.afterError .invalidConfig))
    ∧ (s.status.locked = false → s.stepSize ≠ 0#32 → s.randLen.toNat ≤ 40 → s.randLen ≠ 0#6 →
        (nextEntropy s).ok = false →
        exec .gensec s = .next { s.afterError .randomSourceExhausted with
          entropyPort := s.entropyPort.tail, entropyDraws := s.entropyDraws + 1 })
    ∧ (s.status.locked = false → s.stepSize ≠ 0#32 → s.randLen.toNat ≤ 40 → s.randLen ≠ 0#6 →
        (nextEntropy s).ok = true → ∃ t, exec .gensec s = .next t
          ∧ t = { s with
                  secret := t.secret, secretLen := t.secretLen
                  status := { s.status.afterOk false with locked := true }
                  entropyPort := s.entropyPort.tail, entropyDraws := s.entropyDraws + 1 }
          ∧ t.secretLen.toNat = 8 * ((s.randLen.toNat + 4) / 5)
          ∧ t.secret.toList = base32 ((nextEntropy s).bytes.toList.take s.randLen.toNat)
              ++ List.replicate (64 - 8 * ((s.randLen.toNat + 4) / 5)) 0#8)
    ∧ (s.status.locked = false → s.stepSize ≠ 0#32 → s.randLen = 0#6 →
        exec .gensec s = .next { s with
          secret := Vector.replicate 64 0#8, secretLen := 0#7
          status := { s.status.afterOk false with locked := true } })

/-- 95_test_vectors.md section 4, property 5: a GENSEC with RAND_LEN = 20 gives SECRET_LEN = 32 and no `'='`. -/
def Obligations.GensecTwentyBytesUnpadded : Prop :=
  ∀ s : State, s.status.locked = false → s.stepSize ≠ 0#32 → s.randLen = 20#6 → (nextEntropy s).ok = true →
    ∃ t, exec .gensec s = .next t ∧ t.secretLen = 32#7
      ∧ (∀ k : Fin 64, k.val < 32 → isBase32Char t.secret[k.val] = true)
      ∧ (∀ k : Fin 64, 32 ≤ k.val → t.secret[k.val] = 0#8)

/-! ## Truncation and HOTP -/

/-- R84, with R80, R81, R82: TRUNC from every state gives the truncated value, the code value and the six digits of DIGEST,
`CODE[6..7]` 0x00, and changes nothing else but STATUS. -/
def Obligations.TruncTruncatesDigest : Prop :=
  encode .trunc = 0x00000004#32 ∧ ∀ s : State, ∃ t, exec .trunc s = .next t
    ∧ HoldsCodeOf t s.digest
    ∧ t = { s with
            truncVal := t.truncVal, codeVal := t.codeVal, code := t.code
            status := s.status.afterOk false }

/-- R83 (the spec's own inference), R82: after TRUNC, HOTP, TOTP or TOTP.S without error, CODE is six ASCII digits that
write CODE_VAL in decimal. -/
def Obligations.CodeIsSixDecimalDigits : Prop :=
  ∀ (i : Instr) (s t : State), (i = .trunc ∨ i = .hotp ∨ i = .totp ∨ i = .totpS) → exec i s = .next t →
    t.status.err = .ok →
    (∀ k : Fin 6, 0x30 ≤ t.code[k.val].toNat ∧ t.code[k.val].toNat ≤ 0x39)
    ∧ t.codeVal.toNat < 1000000
    ∧ (t.code[0].toNat - 0x30) * 100000 + (t.code[1].toNat - 0x30) * 10000 + (t.code[2].toNat - 0x30) * 1000
        + (t.code[3].toNat - 0x30) * 100 + (t.code[4].toNat - 0x30) * 10 + (t.code[5].toNat - 0x30)
      = t.codeVal.toNat

/-- R83 (the spec's own inference), R80: TRUNC reads byte 19 of DIGEST only for its low four bits. -/
def Obligations.TruncationWindowStaysInside : Prop :=
  ∀ s s' t t' : State, (∀ k : Fin 19, s.digest[k.val] = s'.digest[k.val]) →
    s.digest[19].toNat % 16 = s'.digest[19].toNat % 16 →
    exec .trunc s = .next t → exec .trunc s' = .next t' →
    t.truncVal = t'.truncVal ∧ t.codeVal = t'.codeVal ∧ t.code = t'.code

/-- R86, R85: HOTP, its checks in order, and the code of HMAC-SHA1 keyed with the secret's bytes as stored; the digest is
stored nowhere. -/
def Obligations.HotpCodeOfCounterBytes : Prop :=
  encode .hotp = 0x00000005#32 ∧ ∀ s : State,
    (s.status.locked = false → exec .hotp s = .next (s.afterError .notConstructed))
    ∧ (s.status.locked = true → s.ctrbLen ≠ 8#4 → exec .hotp s = .next (s.afterError .invalidCounterLength))
    ∧ (s.status.locked = true → s.ConfigOk → s.ctrbLen = 8#4 → ∃ t, exec .hotp s = .next t
        ∧ HoldsCodeOf t (Config.hmacSha1 (secretString s) s.ctrb)
        ∧ t = { s with
                truncVal := t.truncVal, codeVal := t.codeVal, code := t.code
                status := s.status.afterOk false })

/-! ## The counter packer and TOTP -/

/-- R89, with R87: PACK64 from every state writes the bytes of COUNTER, most significant first, to CTRB, 8 to CTRB_LEN, and
nothing else but STATUS. -/
def Obligations.Pack64PacksBigEndian : Prop :=
  encode .pack64 = 0x00000006#32 ∧ ∀ s : State, ∃ t, exec .pack64 s = .next t
    ∧ (∀ i : Fin 8, t.ctrb[i.val].toNat = s.counter.toNat / 2 ^ (56 - 8 * i.val) % 256)
    ∧ t.ctrbLen = 8#4
    ∧ t = { s with ctrb := t.ctrb, ctrbLen := t.ctrbLen, status := s.status.afterOk false }

/-- R87's last sentence (the spec's own inference), R13: the packed bytes, read big-endian, are the counter. -/
def Obligations.PackedBytesReadBack : Prop :=
  ∀ s : State, ∃ t, exec .pack64 s = .next t ∧ numberOfBytes t.ctrb.toList = s.counter.toNat

/-- R92, with R90: TOTP and TOTP.S. The step is `T div STEP_SIZE` of the checked sample, or STEP; the code is that of the
step's eight bytes; STEP_USED records the step; TLAST and TLAST_VALID are written by TOTP alone. -/
def Obligations.TotpCodeOfStep : Prop :=
  (encode .totp = 0x00000007#32 ∧ encode .totpS = 0x00000017#32) ∧ ∀ s : State,
    (s.status.locked = false → exec .totp s = .next (s.afterError .notConstructed)
      ∧ exec .totpS s = .next (s.afterError .notConstructed))
    ∧ (s.status.locked = true → ¬ SampleAccepted s (nextTime s) →
        exec .totp s = .next { s.afterError .clockUnavailable with
          timePort := s.timePort.tail, timeDraws := s.timeDraws + 1 })
    ∧ (s.status.locked = true → s.ConfigOk → SampleAccepted s (nextTime s) → ∃ t, exec .totp s = .next t
        ∧ t.stepUsed.toNat = (nextTime s).secs.toNat / s.stepSize.toNat
        ∧ HoldsCodeOf t (Config.hmacSha1 (secretString s) (bigEndian8 t.stepUsed.toNat))
        ∧ t = { s with
                truncVal := t.truncVal, codeVal := t.codeVal, code := t.code, stepUsed := t.stepUsed
                tlast := (nextTime s).secs, tlastValid := true
                timePort := s.timePort.tail, timeDraws := s.timeDraws + 1
                status := s.status.afterOk false })
    ∧ (s.status.locked = true → s.ConfigOk → ∃ t, exec .totpS s = .next t
        ∧ HoldsCodeOf t (Config.hmacSha1 (secretString s) (bigEndian8 s.stepReg.toNat))
        ∧ t = { s with
                truncVal := t.truncVal, codeVal := t.codeVal, code := t.code, stepUsed := s.stepReg
                status := s.status.afterOk false })

/-- R92's last corner case (the spec's own inference), R125: TOTP.S gives what PACK64 of the same counter followed by HOTP
gives. -/
def Obligations.TotpStepEqualsPackedHotp : Prop :=
  ∀ s : State, s.status.locked = true → s.counter = s.stepReg →
    ∃ a b c, exec .pack64 s = .next a ∧ exec .hotp a = .next b ∧ exec .totpS s = .next c
      ∧ b.status.err = .ok ∧ c.status.err = .ok
      ∧ b.truncVal = c.truncVal ∧ b.codeVal = c.codeVal ∧ b.code = c.code

/-- R112: the check of a time sample by TOTP and VTOTP: invalid or smaller than TLAST is CLOCK_UNAVAILABLE, a sample equal
to TLAST is accepted, and TLAST and TLAST_VALID change only without error. -/
def Obligations.ClockSampleCheck : Prop :=
  ∀ (i : Instr) (s : State), (i = .totp ∨ i = .vtotp) → s.status.locked = true → ∃ t, exec i s = .next t
    ∧ ((nextTime s).valid = false → t.status.err = .clockUnavailable)
    ∧ (s.tlastValid = true → (nextTime s).secs.toNat < s.tlast.toNat → t.status.err = .clockUnavailable)
    ∧ ((nextTime s).valid = true → (s.tlastValid = false ∨ s.tlast.toNat ≤ (nextTime s).secs.toNat) →
        t.status.err = .ok ∧ t.tlast = (nextTime s).secs ∧ t.tlastValid = true)
    ∧ (t.status.err ≠ .ok → t.tlast = s.tlast ∧ t.tlastValid = s.tlastValid)

/-- R91, R111, R113, R103: how many samples a command draws. A command that fails an earlier check draws none (the model's
reading where R39 and R103 differ, log entry 7). -/
def Obligations.DrawsPerCommand : Prop :=
  ∀ (i : Instr) (s t : State), exec i s = .next t →
    ((i = .totp ∨ i = .vtotp) ∧ s.status.locked = true → t.timeDraws = s.timeDraws + 1)
    ∧ (¬ ((i = .totp ∨ i = .vtotp) ∧ s.status.locked = true) → t.timeDraws = s.timeDraws)
    ∧ (i = .gensec ∧ s.status.locked = false ∧ s.stepSize ≠ 0#32 ∧ s.randLen.toNat ≤ 40 ∧ s.randLen ≠ 0#6 →
        t.entropyDraws = s.entropyDraws + 1)
    ∧ (¬ (i = .gensec ∧ s.status.locked = false ∧ s.stepSize ≠ 0#32 ∧ s.randLen.toNat ≤ 40 ∧ s.randLen ≠ 0#6) →
        t.entropyDraws = s.entropyDraws)

/-! ## Validation -/

/-- R99, with R90, R93, R96: VTOTP. MATCH is 1 exactly when the presented code is the code of some step within TOL of the
current step and within 64 bits; STEP_USED, TLAST and TLAST_VALID are written; nothing else but STATUS changes. -/
def Obligations.VtotpMatchesWindow : Prop :=
  encode .vtotp = 0x00000008#32 ∧ ∀ s : State,
    (s.status.locked = false → exec .vtotp s = .next (s.afterError .notConstructed))
    ∧ (s.status.locked = true → ¬ SampleAccepted s (nextTime s) →
        exec .vtotp s = .next { s.afterError .clockUnavailable with
          timePort := s.timePort.tail, timeDraws := s.timeDraws + 1 })
    ∧ (s.status.locked = true → s.ConfigOk → SampleAccepted s (nextTime s) → ∃ t, exec .vtotp s = .next t
        ∧ t.stepUsed.toNat = (nextTime s).secs.toNat / s.stepSize.toNat
        ∧ (t.status.matched = true ↔ ∃ c : Nat, c < 2 ^ 64
            ∧ t.stepUsed.toNat ≤ c + s.tol.toNat ∧ c ≤ t.stepUsed.toNat + s.tol.toNat
            ∧ PresentsCodeOf s (Config.hmacSha1 (secretString s) (bigEndian8 c)))
        ∧ t = { s with
                stepUsed := t.stepUsed, tlast := (nextTime s).secs, tlastValid := true
                timePort := s.timePort.tail, timeDraws := s.timeDraws + 1
                status := s.status.afterOk t.status.matched })

/-- R96: the window's candidates, in ascending order: exactly the steps within TOL of the centre that lie in 64 bits; and
(R97, the spec's own inference) how many there are. -/
def Obligations.WindowCandidates : Prop :=
  ∀ (st : BitVec 64) (tol : BitVec 4),
    (∀ c : BitVec 64, c ∈ stepWindow st tol ↔
      st.toNat ≤ c.toNat + tol.toNat ∧ c.toNat ≤ st.toNat + tol.toNat)
    ∧ (stepWindow st tol).Pairwise (fun a b => a.toNat < b.toNat)
    ∧ (stepWindow st tol).length ≤ 2 * tol.toNat + 1
    ∧ (tol.toNat ≤ st.toNat → st.toNat + tol.toNat < 2 ^ 64 → (stepWindow st tol).length = 2 * tol.toNat + 1)

/-- R98 (the spec's own inference): a code that TOTP generated from a sample T', presented to VTOTP with a sample T and the
same secret and STEP_SIZE, is accepted when the two steps differ by at most TOL; the steps do so when the skew is below
`TOL * STEP_SIZE`, and never when it is `(TOL + 1) * STEP_SIZE` or more. -/
def Obligations.SkewWithinToleranceAccepted : Prop :=
  ∀ s t s' : State,
    s.status.locked = true → s.ConfigOk → SampleAccepted s (nextTime s) → exec .totp s = .next t →
    s'.status.locked = true → s'.ConfigOk → SampleAccepted s' (nextTime s') →
    SameSecret s s' → s'.stepSize = s.stepSize →
    s'.codeInLen = 6#8 → (∀ k : Fin 6, s'.codeIn[k.val] = t.code[k.val]) →
    let a := (nextTime s).secs.toNat
    let b := (nextTime s').secs.toNat
    let z := s.stepSize.toNat
    let n := s'.tol.toNat
    ((a / z ≤ b / z + n ∧ b / z ≤ a / z + n) →
      ∃ u, exec .vtotp s' = .next u ∧ u.status.err = .ok ∧ u.status.matched = true)
    ∧ (a < b + n * z → b < a + n * z → a / z ≤ b / z + n ∧ b / z ≤ a / z + n)
    ∧ (b + (n + 1) * z ≤ a ∨ a + (n + 1) * z ≤ b → ¬ (a / z ≤ b / z + n ∧ b / z ≤ a / z + n))

/-- R100, with R93: VHOTP. MATCH is 1 exactly when the presented code is the code of CTRB; nothing but STATUS changes. -/
def Obligations.VhotpMatchesCounterCode : Prop :=
  encode .vhotp = 0x00000009#32 ∧ ∀ s : State,
    (s.status.locked = false → exec .vhotp s = .next (s.afterError .notConstructed))
    ∧ (s.status.locked = true → s.ctrbLen ≠ 8#4 → exec .vhotp s = .next (s.afterError .invalidCounterLength))
    ∧ (s.status.locked = true → s.ConfigOk → s.ctrbLen = 8#4 → ∃ t, exec .vhotp s = .next t
        ∧ (t.status.matched = true ↔ PresentsCodeOf s (Config.hmacSha1 (secretString s) s.ctrb))
        ∧ t = { s with status := s.status.afterOk t.status.matched })

/-- R100's last corner case (the spec's own inference), 95_test_vectors.md section 4 property 3: the code that HOTP
generates for a counter validates for it, and no longer does when one digit is changed. -/
def Obligations.HotpCodeValidates : Prop :=
  ∀ s t : State, s.status.locked = true → s.ctrbLen = 8#4 → exec .hotp s = .next t →
    (∃ u, exec .vhotp { t with codeIn := t.code, codeInLen := 6#8 } = .next u
      ∧ u.status.err = .ok ∧ u.status.matched = true)
    ∧ (∀ (k : Fin 6) (b : Byte), b ≠ t.code[k.val] →
        ∃ u, exec .vhotp { t with codeIn := t.code.set k.val b, codeInLen := 6#8 } = .next u
          ∧ u.status.err = .ok ∧ u.status.matched = false)

/-- R95: VTOTP and VHOTP write only STATUS and, for VTOTP, STEP_USED, TLAST and TLAST_VALID, and none of these but MATCH
depends on a generated code: run on two states that differ only in the secret, they leave states that differ only in the
secret and MATCH. -/
def Obligations.ValidatorsRevealOnlyMatch : Prop :=
  ∀ (i : Instr) (s t t' : State) (key : Vector Byte 64) (len : BitVec 7), (i = .vtotp ∨ i = .vhotp) →
    exec i s = .next t → exec i { s with secret := key, secretLen := len } = .next t' →
    (t' = { t with
            secret := key, secretLen := len
            status := { t.status with matched := t'.status.matched } })
    ∧ (i = .vhotp → t = { s with status := t.status })
    ∧ (i = .vtotp → t = { s with
        status := t.status, stepUsed := t.stepUsed, tlast := t.tlast, tlastValid := t.tlastValid
        timePort := t.timePort, timeDraws := t.timeDraws })

/-- R58: each command's results depend on the registers and draws that R58 lists for it and on nothing else: two states
that agree on its reads give the same ERR and MATCH and, without error, agree on its writes. -/
def Obligations.CommandsReadOnlyTheirOperands : Prop :=
  ∀ (i : Instr) (s s' t t' : State), SameReads i s s' → exec i s = .next t → exec i s' = .next t' →
    t.status.err = t'.status.err ∧ t.status.matched = t'.status.matched
      ∧ (t.status.err = .ok → SameWrites i t t')

/-! ## The register window -/

/-- R45: the register map, offset by offset, and the unmapped offsets. -/
def Obligations.RegisterMap : Prop :=
  (windowWord 0x000 = some .cmd ∧ windowWord 0x004 = some .status ∧ windowWord 0x008 = some .ctrl
    ∧ windowWord 0x00C = some .stepSize ∧ windowWord 0x010 = some .tol ∧ windowWord 0x014 = some .randLen
    ∧ windowWord 0x018 = some .secretLen ∧ windowWord 0x01C = some .inLen ∧ windowWord 0x020 = some .ctrbLen
    ∧ windowWord 0x024 = some .codeInLen ∧ windowWord 0x028 = some .counterLo
    ∧ windowWord 0x02C = some .counterHi ∧ windowWord 0x030 = some .stepLo ∧ windowWord 0x034 = some .stepHi
    ∧ windowWord 0x038 = some .stepUsedLo ∧ windowWord 0x03C = some .stepUsedHi
    ∧ windowWord 0x040 = some .truncVal ∧ windowWord 0x044 = some .codeVal ∧ windowWord 0x048 = some .outLen)
  ∧ (∀ j : Fin 2, windowWord (0x050 + 4 * j.val) = some (.code j)
      ∧ windowWord (0x058 + 4 * j.val) = some (.codeIn j) ∧ windowWord (0x060 + 4 * j.val) = some (.ctrb j))
  ∧ (∀ j : Fin 5, windowWord (0x070 + 4 * j.val) = some (.digest j))
  ∧ (∀ j : Fin 16, windowWord (0x100 + 4 * j.val) = some (.secret j)
      ∧ windowWord (0x180 + 4 * j.val) = some (.outBuf j))
  ∧ (∀ j : Fin 10, windowWord (0x140 + 4 * j.val) = some (.inBuf j))
  ∧ (∀ off : Nat, (off = 0x04C ∨ 0x068 ≤ off ∧ off ≤ 0x06F ∨ 0x084 ≤ off ∧ off ≤ 0x0FF
      ∨ 0x168 ≤ off ∧ off ≤ 0x17F ∨ 0x1C0 ≤ off) → windowWord off = none)
  ∧ (∀ r : WindowWord, (r.access = .wo ↔ r = .cmd) ∧ (r.access = .w1c ↔ r = .status)
      ∧ (r.access = .ctrl ↔ r = .ctrl) ∧ (r.access = .ro ↔ r.ReadOnly) ∧ (r.access = .rwl ↔ r.LockProtected)
      ∧ (r.access = .rw ↔ r.HostWritable))

/-- R49: an access in the window that is narrow, misaligned or unmapped is answered with ERROR, an ERROR read with data 0,
and has no effect on any register; every other access is answered with OKAY. -/
def Obligations.BusErrorsHaveNoEffect : Prop :=
  ∀ (s : State) (width : Width) (off : Nat) (op : BusOp) (rest : List Event), s.HostTurn width off op rest →
    off < 0x200 →
    (busAccessWf width.bytes off = false →
      step s = .next { s with
        schedule := rest
        lastResp := some ⟨false, match op with | .read => some 0#32 | .write _ => none⟩ })
    ∧ (busAccessWf width.bytes off = true → ∃ t d, step s = .next t ∧ t.lastResp = some ⟨true, d⟩)

/-- R50: a read of a mapped word answers with OKAY and the word's current fields, reserved bits 0, CMD 0, and changes no
register. -/
def Obligations.ReadsReturnFieldsWithoutEffect : Prop :=
  (∀ (s : State) (off : Nat) (r : WindowWord) (rest : List Event), s.HostTurn .word off .read rest →
    windowWord off = some r →
    step s = .next { s with schedule := rest, lastResp := some ⟨true, some (readWord s r)⟩ })
  ∧ (∀ s : State,
      readWord s .cmd = 0#32
      ∧ (readWord s .ctrl).toNat = s.ie.toNat ∧ (readWord s .stepSize).toNat = s.stepSize.toNat
      ∧ (readWord s .tol).toNat = s.tol.toNat ∧ (readWord s .randLen).toNat = s.randLen.toNat
      ∧ (readWord s .secretLen).toNat = s.secretLen.toNat ∧ (readWord s .inLen).toNat = s.inLen.toNat
      ∧ (readWord s .ctrbLen).toNat = s.ctrbLen.toNat ∧ (readWord s .codeInLen).toNat = s.codeInLen.toNat
      ∧ (readWord s .truncVal).toNat = s.truncVal.toNat ∧ (readWord s .codeVal).toNat = s.codeVal.toNat
      ∧ (readWord s .outLen).toNat = s.outLen.toNat
      ∧ (readWord s .counterHi).toNat * 2 ^ 32 + (readWord s .counterLo).toNat = s.counter.toNat
      ∧ (readWord s .stepHi).toNat * 2 ^ 32 + (readWord s .stepLo).toNat = s.stepReg.toNat
      ∧ (readWord s .stepUsedHi).toNat * 2 ^ 32 + (readWord s .stepUsedLo).toNat = s.stepUsed.toNat
      ∧ (readWord s .status).toNat = s.status.busy.toNat + s.status.done.toNat * 2 ^ 1
          + s.status.matched.toNat * 2 ^ 2 + s.status.locked.toNat * 2 ^ 3 + s.status.err.code.toNat * 2 ^ 4
          + s.status.wbusy.toNat * 2 ^ 8 + s.status.wlock.toNat * 2 ^ 9)
  ∧ (∀ (s : State) (j : Fin 16) (l : Fin 4),
      (readWord s (.secret j)).toNat / 2 ^ (8 * l.val) % 256 = s.secret[4 * j.val + l.val].toNat
      ∧ (readWord s (.outBuf j)).toNat / 2 ^ (8 * l.val) % 256 = s.outBuf[4 * j.val + l.val].toNat)
  ∧ (∀ (s : State) (j : Fin 10) (l : Fin 4),
      (readWord s (.inBuf j)).toNat / 2 ^ (8 * l.val) % 256 = s.inBuf[4 * j.val + l.val].toNat)
  ∧ (∀ (s : State) (j : Fin 5) (l : Fin 4),
      (readWord s (.digest j)).toNat / 2 ^ (8 * l.val) % 256 = s.digest[4 * j.val + l.val].toNat)
  ∧ (∀ (s : State) (j : Fin 2) (l : Fin 4),
      (readWord s (.code j)).toNat / 2 ^ (8 * l.val) % 256 = s.code[4 * j.val + l.val].toNat
      ∧ (readWord s (.codeIn j)).toNat / 2 ^ (8 * l.val) % 256 = s.codeIn[4 * j.val + l.val].toNat
      ∧ (readWord s (.ctrb j)).toNat / 2 ^ (8 * l.val) % 256 = s.ctrb[4 * j.val + l.val].toNat)

/-- R46: the word of a buffer holds four of its bytes in little-endian lane order, and a written word's lanes become the
four bytes, every other byte of the buffer staying as it was. -/
def Obligations.BufferWordLanes : Prop :=
  ∀ (m : Nat) (b : Vector Byte (4 * m)) (j : Fin m) (v : Word),
    (bufWord b j).toNat = b[4 * j.val].toNat + b[4 * j.val + 1].toNat * 2 ^ 8
        + b[4 * j.val + 2].toNat * 2 ^ 16 + b[4 * j.val + 3].toNat * 2 ^ 24
    ∧ (∀ l : Fin 4, (setBufWord b j v)[4 * j.val + l.val].toNat = v.toNat / 2 ^ (8 * l.val) % 256)
    ∧ (∀ k : Fin (4 * m), k.val / 4 ≠ j.val → (setBufWord b j v)[k.val] = b[k.val])

/-- R51: the cases of a write to a mapped word, in their order, all answered with OKAY. In case 7 the word then reads the
value masked to its field bits, every other word of the window reads as before, and no hidden register changes. -/
def Obligations.WriteCases : Prop :=
  ∀ (s : State) (off : Nat) (r : WindowWord) (v : Word) (rest : List Event),
    s.HostTurn .word off (.write v) rest → windowWord off = some r →
    let answered : State := { s with schedule := rest, lastResp := some ⟨true, none⟩ }
    (r = .cmd → s.status.busy = false → step s = .next { answered with
        pend := v, status := { s.status with busy := true, done := false } })
    ∧ (r = .cmd → s.status.busy = true → step s = .next { answered with
        status := { s.status with wbusy := true } })
    ∧ (r = .status → step s = .next { answered with
        status := { s.status with
          done := s.status.done && !v.getLsbD 1
          wbusy := s.status.wbusy && !v.getLsbD 8
          wlock := s.status.wlock && !v.getLsbD 9 } })
    ∧ (r = .ctrl → step s = .next { answered with ie := v.getLsbD 0 })
    ∧ (r.ReadOnly → step s = .next answered)
    ∧ (r.HostWritable ∨ r.LockProtected → s.status.busy = true → step s = .next { answered with
        status := { s.status with wbusy := true } })
    ∧ (r.LockProtected → s.status.busy = false → s.status.locked = true → step s = .next { answered with
        status := { s.status with wlock := true } })
    ∧ (r.HostWritable ∨ (r.LockProtected ∧ s.status.locked = false) → s.status.busy = false →
        ∃ t, step s = .next t ∧ readWord t r = v &&& fieldMask r
          ∧ (∀ r' : WindowWord, r' ≠ r → readWord t r' = readWord s r')
          ∧ t.pend = s.pend ∧ t.tlast = s.tlast ∧ t.tlastValid = s.tlastValid ∧ t.resetPin = s.resetPin
          ∧ t.schedule = rest ∧ t.lastResp = some ⟨true, none⟩
          ∧ t.timePort = s.timePort ∧ t.timeDraws = s.timeDraws
          ∧ t.entropyPort = s.entropyPort ∧ t.entropyDraws = s.entropyDraws)

/-- R41: while BUSY = 1 a write to CMD or to an RW or RWL word changes nothing but WBUSY; writes to STATUS and CTRL are not
dropped; reads are served with the values from before the completion. -/
def Obligations.WritesWhileBusyDropped : Prop :=
  ∀ (s : State) (off : Nat) (r : WindowWord) (op : BusOp) (rest : List Event),
    s.HostTurn .word off op rest → windowWord off = some r → s.status.busy = true →
    (∀ v, op = .write v → r = .cmd ∨ r.HostWritable ∨ r.LockProtected → step s = .next { s with
        status := { s.status with wbusy := true }, schedule := rest, lastResp := some ⟨true, none⟩ })
    ∧ (∀ v, op = .write v → r = .status → step s = .next { s with
        status := { s.status with
          done := s.status.done && !v.getLsbD 1
          wbusy := s.status.wbusy && !v.getLsbD 8
          wlock := s.status.wlock && !v.getLsbD 9 }
        schedule := rest, lastResp := some ⟨true, none⟩ })
    ∧ (∀ v, op = .write v → r = .ctrl → step s = .next { s with
        ie := v.getLsbD 0, schedule := rest, lastResp := some ⟨true, none⟩ })
    ∧ (op = .read → step s = .next { s with
        schedule := rest, lastResp := some ⟨true, some (readWord s r)⟩ })

/-- R42: while LOCKED = 1 and BUSY = 0 a write to STEP_SIZE, TOL, RAND_LEN, SECRET_LEN or SECRET changes nothing but WLOCK;
with BUSY = 1 as well, nothing but WBUSY. -/
def Obligations.LockedWritesDropped : Prop :=
  ∀ (s : State) (off : Nat) (v : Word) (rest : List Event), s.HostTurn .word off (.write v) rest →
    (off = 0x00C ∨ off = 0x010 ∨ off = 0x014 ∨ off = 0x018 ∨ (0x100 ≤ off ∧ off < 0x140 ∧ off % 4 = 0)) →
    s.status.locked = true →
    (s.status.busy = false → step s = .next { s with
        status := { s.status with wlock := true }, schedule := rest, lastResp := some ⟨true, none⟩ })
    ∧ (s.status.busy = true → step s = .next { s with
        status := { s.status with wbusy := true }, schedule := rest, lastResp := some ⟨true, none⟩ })

/-- R40, R16: no host access reads PEND, TLAST or TLAST_VALID, and none writes TLAST or TLAST_VALID. -/
def Obligations.HiddenStateUnreachable : Prop :=
  (∀ (s : State) (w : Word) (x : BitVec 64) (b : Bool) (r : WindowWord),
    readWord { s with pend := w, tlast := x, tlastValid := b } r = readWord s r)
  ∧ (∀ (s t : State) (a : BusAccess) (rest : List Event), s.schedule = .access a :: rest → step s = .next t →
      t.tlast = s.tlast ∧ t.tlastValid = s.tlastValid)

/-- R39's last paragraph (the spec's own inference), R41: a host access while a command is pending does not change what the
command will do; only CTRL.IE, WBUSY, WLOCK and the access's answer carry over. -/
def Obligations.OperandsFixedInFlight : Prop :=
  ∀ (i : Instr) (s s' t : State) (a : BusAccess) (rest : List Event),
    s.resetPin = false → s.status.busy = true → s.schedule = .access a :: rest → step s = .next s' →
    exec i s = .next t →
    exec i s' = .next { t with
      schedule := rest, lastResp := s'.lastResp, ie := s'.ie
      status := { t.status with wbusy := s'.status.wbusy, wlock := s'.status.wlock } }

/-! ## Interrupt and reset -/

/-- R106: `irq` is CTRL.IE & STATUS.DONE; it is asserted when a command completes with IE = 1, error or not; it is
deasserted by clearing DONE, by clearing IE and by issue; no other access changes it. -/
def Obligations.IrqIsEnabledDone : Prop :=
  (∀ s t : State, s.EngineTurn → step s = .next t → t.irq = s.ie)
  ∧ (∀ (s t : State) (v : Word) (rest : List Event), s.HostTurn .word 0x004 (.write v) rest →
      step s = .next t → t.irq = (s.irq && !v.getLsbD 1))
  ∧ (∀ (s t : State) (v : Word) (rest : List Event), s.HostTurn .word 0x008 (.write v) rest →
      step s = .next t → t.irq = (v.getLsbD 0 && s.status.done))
  ∧ (∀ (s t : State) (v : Word) (rest : List Event), s.HostTurn .word 0x000 (.write v) rest →
      s.status.busy = false → step s = .next t → t.irq = false)
  ∧ (∀ (s t : State) (width : Width) (off : Nat) (op : BusOp) (rest : List Event),
      s.HostTurn width off op rest →
      width ≠ .word ∨ op = .read ∨ ((off ≠ 0x000 ∨ s.status.busy = true) ∧ off ≠ 0x004 ∧ off ≠ 0x008) →
      step s = .next t → t.irq = s.irq)

/-- R118: when an asserted reset is released, every register holds its reset value and irq is 0; while it is asserted the
block answers no access. -/
def Obligations.ResetReleaseGivesResetValues : Prop :=
  (HoldsResetValues State.reset ∧ State.reset.irq = false)
  ∧ (∀ (s : State) (rest : List Event), s.resetPin = true → s.schedule = .resetRelease :: rest →
      ∃ t, step s = .next t ∧ HoldsResetValues t ∧ t.irq = false ∧ t.resetPin = false)
  ∧ (∀ (s : State) (a : BusAccess) (rest : List Event), s.resetPin = true → s.schedule = .access a :: rest →
      step s = .next { s with schedule := rest, lastResp := none })

/-- R119: asserting reset abandons the pending command: the registers hold their reset values, nothing is drawn, irq is 0;
and until release no event brings a result, a draw or an interrupt. That the registers hold their reset values from the
assertion on is the model's choice (log entry 10). -/
def Obligations.ResetAbandonsPendingCommand : Prop :=
  (∀ (s : State) (rest : List Event), s.schedule = .resetAssert :: rest →
    ∃ t, step s = .next t ∧ t.resetPin = true ∧ HoldsResetValues t ∧ t.irq = false
      ∧ t.timeDraws = s.timeDraws ∧ t.entropyDraws = s.entropyDraws)
  ∧ (∀ s t : State, s.resetPin = true → HoldsResetValues s → step s = .next t →
      HoldsResetValues t ∧ t.irq = false ∧ t.timeDraws = s.timeDraws ∧ t.entropyDraws = s.entropyDraws)

/-! ## Whole-machine rules -/

/-- R118, R22, R29, R43: the reset state meets the invariant. -/
def Obligations.ResetStateMeetsInvariant : Prop := State.reset.Inv

/-- R22, R29, R43, R81, R82, R38, R20, R42, R40: every step keeps the invariant. Its clause ResetOk, that the registers hold
their reset values while reset is asserted, is the model's choice and no rule of the spec (log entry 10: R118 gives the
values at release). -/
def Obligations.StepKeepsInvariant : Prop := ∀ s t : State, s.Inv → step s = .next t → t.Inv

/-- R26, R42, R76 (each the spec's own inference); 95_test_vectors.md section 4 property 7: once LOCKED = 1, however long
the machine runs and whatever the host does, SECRET, SECRET_LEN, STEP_SIZE, TOL, RAND_LEN and LOCKED stay as they are
until reset, and the entropy port is not drawn. -/
def Obligations.LockedConfigNeverChanges : Prop :=
  ∀ (n : Nat) (s t : State), s.NoReset → s.status.locked = true → Sys2Proof.core.run n s = .next t →
    t.status.locked = true ∧ t.secret = s.secret ∧ t.secretLen = s.secretLen ∧ t.stepSize = s.stepSize
      ∧ t.tol = s.tol ∧ t.randLen = s.randLen ∧ t.entropyDraws = s.entropyDraws

/-- R40, R112: along every run without reset, an accepted time sample stays accepted and TLAST never decreases. -/
def Obligations.TlastNeverDecreases : Prop :=
  ∀ (n : Nat) (s t : State), s.NoReset → s.tlastValid = true → Sys2Proof.core.run n s = .next t →
    t.tlastValid = true ∧ s.tlast.toNat ≤ t.tlast.toNat
end

