-- ==== Sys2Proof/Laws/Operands.lean ====
section
/-! SUPPORT. One spec lemma per operand function: each says what the function computes in the number formulas of
Sys2Proof/Safety.lean, so that later proofs cite it instead of unfolding the function. -/
namespace Sys2Proof.Machine

/-! ### Truncation -/

theorem truncOffset_eq (d : Vector Byte 20) : truncOffset d = d[19].toNat % 16 := by
  simp only [truncOffset, BitVec.toNat_and, BitVec.toNat_ofNat, Nat.reducePow, Nat.reduceMod]
  exact Nat.and_two_pow_sub_one_eq_mod _ 4

theorem be32_toNat (b0 b1 b2 b3 : Byte) :
    (be32 b0 b1 b2 b3).toNat = b0.toNat * 2 ^ 24 + b1.toNat * 2 ^ 16 + b2.toNat * 2 ^ 8 + b3.toNat := by
  have h1 := b1.isLt; have h2 := b2.isLt; have h3 := b3.isLt
  simp only [be32, BitVec.toNat_append]
  rw [← Nat.shiftLeft_add_eq_or_of_lt h1, ← Nat.shiftLeft_add_eq_or_of_lt h2, ← Nat.shiftLeft_add_eq_or_of_lt h3]
  simp only [Nat.shiftLeft_eq]
  omega

/-- The truncated value is R80's formula. -/
theorem truncValue_toNat (d : Vector Byte 20) : (truncValue d).toNat = specTrunc d := by
  simp only [truncValue, specTrunc, BitVec.toNat_and, be32_toNat, truncOffset_eq, BitVec.toNat_ofNat]
  exact Nat.and_two_pow_sub_one_eq_mod _ 31

theorem specTrunc_lt (d : Vector Byte 20) : specTrunc d < 2 ^ 31 := Nat.mod_lt _ (by decide)

theorem specDigit_lt (v k : Nat) : specDigit v k < 0x3A := by
  have := Nat.mod_lt (v % 1000000 / 10 ^ (5 - k)) (y := 10) (by decide)
  simp only [specDigit]; omega

theorem le_specDigit (v k : Nat) : 0x30 ≤ specDigit v k := Nat.le_add_right _ _

theorem truncDigest_value (d : Vector Byte 20) : (truncDigest d).value.toNat = specTrunc d := by
  simp only [truncDigest, BitVec.toNat_setWidth, truncValue_toNat]
  exact Nat.mod_eq_of_lt (specTrunc_lt d)

theorem truncDigest_codeVal (d : Vector Byte 20) : (truncDigest d).codeVal.toNat = specTrunc d % 1000000 := by
  have := Nat.mod_lt (specTrunc d) (y := 1000000) (by decide)
  simp only [truncDigest, truncValue_toNat, BitVec.toNat_ofNat]
  omega

theorem truncDigest_digit (d : Vector Byte 20) (k : Nat) (hk : k < 6) :
    (truncDigest d).digits[k].toNat = specDigit (specTrunc d) k := by
  have h := specDigit_lt (specTrunc d) k
  simp only [truncDigest, truncValue_toNat, Vector.getElem_ofFn, codeDigit, BitVec.toNat_ofNat]
  simp only [specDigit] at h ⊢
  omega

/-- The bytes of CODE: the digits, then 0x00 (R43). -/
theorem codeBytes_getElem (digits : Vector Byte 6) (k : Nat) (hk : k < 8) :
    (codeBytes digits)[k] = if h : k < 6 then digits[k] else 0#8 := by
  simp [codeBytes]

/-- Whatever else a command writes, the three result registers of `writeCode (truncDigest d)` hold the code of `d`. -/
theorem holdsCodeOf_of_fields {t : State} {d : Vector Byte 20} (hv : t.truncVal = (truncDigest d).value)
    (hc : t.codeVal = (truncDigest d).codeVal) (hb : t.code = codeBytes (truncDigest d).digits) :
    HoldsCodeOf t d := by
  refine ⟨?_, ?_, fun k => ?_, ?_, ?_⟩
  · rw [hv, truncDigest_value]
  · rw [hc, truncDigest_codeVal]
  · have hk := k.isLt
    simp only [hb, codeBytes_getElem, hk, dif_pos, truncDigest_digit]
  all_goals simp [hb, codeBytes_getElem]

/-- The comparison of R93 against a truncated digest. -/
theorem codeEq_truncDigest (s : State) (d : Vector Byte 20) :
    codeEq s (truncDigest d).digits = true ↔ PresentsCodeOf s d := by
  simp only [codeEq, PresentsCodeOf, Bool.and_eq_true, decide_eq_true_eq]
  refine and_congr_right fun _ => forall_congr' fun k => ?_
  rw [← truncDigest_digit d k.val k.isLt, BitVec.toNat_inj]

/-! ### The packer, the clock step, the secret -/

/-- `Pack64` is R87's formula. -/
theorem pack64_eq (c : BitVec 64) : pack64 c = bigEndian8 c.toNat := by
  apply Vector.ext
  intro i hi
  simp only [pack64, bigEndian8, Vector.getElem_ofFn]
  apply BitVec.eq_of_toNat_eq
  simp [BitVec.toNat_setWidth, BitVec.toNat_ushiftRight, Nat.shiftRight_eq_div_pow]

theorem bigEndian8_getElem (c i : Nat) (hi : i < 8) :
    (bigEndian8 c)[i].toNat = c / 2 ^ (56 - 8 * i) % 256 := by
  simp [bigEndian8]

/-- `CurStep(T) = T div STEP_SIZE`, when STEP_SIZE is not 0 (R90). -/
theorem curStep_toNat (t : BitVec 64) (z : BitVec 32) (hz : z ≠ 0#32) : (curStep t z).toNat = t.toNat / z.toNat := by
  simp only [curStep, hz, if_false, BitVec.toNat_ofNat]
  exact Nat.mod_eq_of_lt (Nat.lt_of_le_of_lt (Nat.div_le_self _ _) t.isLt)

/-- For SECRET_LEN at most 64 the key is `SECRET[0..SECRET_LEN)` (R26). -/
theorem secretKey_eq {s : State} (h : s.secretLen.toNat ≤ 64) : secretKey s = secretString s := by
  simp [secretKey, secretString, Nat.sub_eq_zero_of_le h]

/-! ### The window -/

/-- R96: the candidates are the steps within TOL of the centre that lie in 64 bits. -/
theorem mem_stepWindow (st : BitVec 64) (tol : BitVec 4) (c : BitVec 64) :
    c ∈ stepWindow st tol ↔ st.toNat ≤ c.toNat + tol.toNat ∧ c.toNat ≤ st.toNat + tol.toNat := by
  have hc := c.isLt
  simp only [stepWindow, List.mem_filterMap, List.mem_range]
  constructor
  · rintro ⟨j, hj, h⟩
    split at h
    · rename_i hr
      obtain rfl := Option.some.inj h
      have : ((BitVec.ofInt 64 ((st.toNat : Int) - tol.toNat + j)).toNat : Int)
          = (st.toNat : Int) - tol.toNat + j := by
        rw [BitVec.toNat_ofInt]; omega
      omega
    · cases h
  · rintro ⟨h1, h2⟩
    refine ⟨c.toNat + tol.toNat - st.toNat, by omega, ?_⟩
    have hi : (st.toNat : Int) - tol.toNat + (c.toNat + tol.toNat - st.toNat : Nat) = c.toNat := by omega
    rw [if_pos (by rw [hi]; omega), hi]
    simp

/-- R99's `m`: some step in the window has the presented code. -/
theorem windowMatch_iff (s : State) (st : BitVec 64) (h : s.secretLen.toNat ≤ 64) :
    windowMatch s st = true ↔ ∃ c : Nat, c < 2 ^ 64 ∧ st.toNat ≤ c + s.tol.toNat ∧ c ≤ st.toNat + s.tol.toNat
      ∧ PresentsCodeOf s (Config.hmacSha1 (secretString s) (bigEndian8 c)) := by
  simp only [windowMatch, List.any_eq_true, mem_stepWindow, hotpOf, codeEq_truncDigest, secretKey_eq h, pack64_eq]
  constructor
  · rintro ⟨c, ⟨h1, h2⟩, h3⟩
    exact ⟨c.toNat, c.isLt, h1, h2, h3⟩
  · rintro ⟨c, hc, h1, h2, h3⟩
    have e : (BitVec.ofNat 64 c).toNat = c := by rw [BitVec.toNat_ofNat, Nat.mod_eq_of_lt hc]
    exact ⟨BitVec.ofNat 64 c, by rw [e]; exact ⟨h1, h2⟩, by rw [e]; exact h3⟩

/-! ### Base32 -/

theorem groupVal_lt (b : List Byte) (g : Nat) : groupVal b g < 32 := by
  have h (x : Bool) : x.toNat ≤ 1 := by cases x <;> decide
  have := h (bitAt b (5 * g)); have := h (bitAt b (5 * g + 1)); have := h (bitAt b (5 * g + 2))
  have := h (bitAt b (5 * g + 3)); have := h (bitAt b (5 * g + 4))
  simp only [groupVal]; omega

/-- R68's table: the padding fills the last block of eight characters. -/
theorem padCount_eq (n : Nat) : groupCount n + padCount n = 8 * ((n + 4) / 5) := by
  have h : n % 5 = 0 ∨ n % 5 = 1 ∨ n % 5 = 2 ∨ n % 5 = 3 ∨ n % 5 = 4 := by omega
  simp only [groupCount, padCount]
  rcases h with h | h | h | h | h
  · rw [show 8 * n % 40 = 0 by omega]; simp only []; omega
  · rw [show 8 * n % 40 = 8 by omega]; simp only []; omega
  · rw [show 8 * n % 40 = 16 by omega]; simp only []; omega
  · rw [show 8 * n % 40 = 24 by omega]; simp only []; omega
  · rw [show 8 * n % 40 = 32 by omega]; simp only []; omega

/-- R70: the length of Base32. -/
theorem base32_length (b : List Byte) : (base32 b).length = 8 * ((b.length + 4) / 5) := by
  rw [← padCount_eq]; simp [base32]

/-- R67: a group value's character is in the alphabet, and R67 read backwards gives the value. -/
theorem alpha_spec : ∀ v : Nat, v < 32 → isBase32Char (alpha v) = true ∧ valueOfChar (alpha v) = v := by
  decide

/-- A filled buffer, as a list: the string, then 0x00 (R43). -/
theorem fillBuf_toList (n : Nat) (t : List Byte) (h : t.length ≤ n) :
    (fillBuf n t).toList = t ++ List.replicate (n - t.length) 0#8 := by
  apply List.ext_getElem
  · simp; omega
  · intro k h1 h2
    simp only [fillBuf, Vector.getElem_toList, Vector.getElem_ofFn, List.getElem_append]
    split
    · rw [List.getD_eq_getElem _ _ ‹_›]
    · rw [List.getD_eq_default _ _ (by omega)]; simp

theorem fillBuf_getElem (n : Nat) (t : List Byte) (k : Nat) (hk : k < n) : (fillBuf n t)[k] = t.getD k 0#8 := by
  simp [fillBuf]

theorem inputBytes_length {s : State} (h : s.inLen.toNat ≤ 40) : (inputBytes s).length = s.inLen.toNat := by
  simp [inputBytes, h]

end Sys2Proof.Machine
end

