-- ==== Sys2Proof/Laws/State.lean ====
section
/-! SUPPORT. One lemma per field per named update of State and of STATUS, each true by rfl: what the update writes and
what it leaves unchanged. Provers cite these through simp instead of unfolding an update. -/
namespace Sys2Proof.Machine

variable (s : State)

/-! ### raiseError -/

@[simp] theorem raiseError_status (e : ErrCode) : (raiseError e s).status = s.status.failed e := (rfl)
@[simp] theorem raiseError_ie (e : ErrCode) : (raiseError e s).ie = s.ie := (rfl)
@[simp] theorem raiseError_stepSize (e : ErrCode) : (raiseError e s).stepSize = s.stepSize := (rfl)
@[simp] theorem raiseError_tol (e : ErrCode) : (raiseError e s).tol = s.tol := (rfl)
@[simp] theorem raiseError_randLen (e : ErrCode) : (raiseError e s).randLen = s.randLen := (rfl)
@[simp] theorem raiseError_secretLen (e : ErrCode) : (raiseError e s).secretLen = s.secretLen := (rfl)
@[simp] theorem raiseError_secret (e : ErrCode) : (raiseError e s).secret = s.secret := (rfl)
@[simp] theorem raiseError_inLen (e : ErrCode) : (raiseError e s).inLen = s.inLen := (rfl)
@[simp] theorem raiseError_inBuf (e : ErrCode) : (raiseError e s).inBuf = s.inBuf := (rfl)
@[simp] theorem raiseError_outLen (e : ErrCode) : (raiseError e s).outLen = s.outLen := (rfl)
@[simp] theorem raiseError_outBuf (e : ErrCode) : (raiseError e s).outBuf = s.outBuf := (rfl)
@[simp] theorem raiseError_counter (e : ErrCode) : (raiseError e s).counter = s.counter := (rfl)
@[simp] theorem raiseError_ctrbLen (e : ErrCode) : (raiseError e s).ctrbLen = s.ctrbLen := (rfl)
@[simp] theorem raiseError_ctrb (e : ErrCode) : (raiseError e s).ctrb = s.ctrb := (rfl)
@[simp] theorem raiseError_stepReg (e : ErrCode) : (raiseError e s).stepReg = s.stepReg := (rfl)
@[simp] theorem raiseError_stepUsed (e : ErrCode) : (raiseError e s).stepUsed = s.stepUsed := (rfl)
@[simp] theorem raiseError_digest (e : ErrCode) : (raiseError e s).digest = s.digest := (rfl)
@[simp] theorem raiseError_truncVal (e : ErrCode) : (raiseError e s).truncVal = s.truncVal := (rfl)
@[simp] theorem raiseError_codeVal (e : ErrCode) : (raiseError e s).codeVal = s.codeVal := (rfl)
@[simp] theorem raiseError_code (e : ErrCode) : (raiseError e s).code = s.code := (rfl)
@[simp] theorem raiseError_codeInLen (e : ErrCode) : (raiseError e s).codeInLen = s.codeInLen := (rfl)
@[simp] theorem raiseError_codeIn (e : ErrCode) : (raiseError e s).codeIn = s.codeIn := (rfl)
@[simp] theorem raiseError_pend (e : ErrCode) : (raiseError e s).pend = s.pend := (rfl)
@[simp] theorem raiseError_tlast (e : ErrCode) : (raiseError e s).tlast = s.tlast := (rfl)
@[simp] theorem raiseError_tlastValid (e : ErrCode) : (raiseError e s).tlastValid = s.tlastValid := (rfl)
@[simp] theorem raiseError_resetPin (e : ErrCode) : (raiseError e s).resetPin = s.resetPin := (rfl)
@[simp] theorem raiseError_schedule (e : ErrCode) : (raiseError e s).schedule = s.schedule := (rfl)
@[simp] theorem raiseError_lastResp (e : ErrCode) : (raiseError e s).lastResp = s.lastResp := (rfl)
@[simp] theorem raiseError_timePort (e : ErrCode) : (raiseError e s).timePort = s.timePort := (rfl)
@[simp] theorem raiseError_timeDraws (e : ErrCode) : (raiseError e s).timeDraws = s.timeDraws := (rfl)
@[simp] theorem raiseError_entropyPort (e : ErrCode) : (raiseError e s).entropyPort = s.entropyPort := (rfl)
@[simp] theorem raiseError_entropyDraws (e : ErrCode) : (raiseError e s).entropyDraws = s.entropyDraws := (rfl)

/-! ### complete -/

@[simp] theorem complete_status (m : Bool) : (complete m s).status = s.status.completed m := (rfl)
@[simp] theorem complete_ie (m : Bool) : (complete m s).ie = s.ie := (rfl)
@[simp] theorem complete_stepSize (m : Bool) : (complete m s).stepSize = s.stepSize := (rfl)
@[simp] theorem complete_tol (m : Bool) : (complete m s).tol = s.tol := (rfl)
@[simp] theorem complete_randLen (m : Bool) : (complete m s).randLen = s.randLen := (rfl)
@[simp] theorem complete_secretLen (m : Bool) : (complete m s).secretLen = s.secretLen := (rfl)
@[simp] theorem complete_secret (m : Bool) : (complete m s).secret = s.secret := (rfl)
@[simp] theorem complete_inLen (m : Bool) : (complete m s).inLen = s.inLen := (rfl)
@[simp] theorem complete_inBuf (m : Bool) : (complete m s).inBuf = s.inBuf := (rfl)
@[simp] theorem complete_outLen (m : Bool) : (complete m s).outLen = s.outLen := (rfl)
@[simp] theorem complete_outBuf (m : Bool) : (complete m s).outBuf = s.outBuf := (rfl)
@[simp] theorem complete_counter (m : Bool) : (complete m s).counter = s.counter := (rfl)
@[simp] theorem complete_ctrbLen (m : Bool) : (complete m s).ctrbLen = s.ctrbLen := (rfl)
@[simp] theorem complete_ctrb (m : Bool) : (complete m s).ctrb = s.ctrb := (rfl)
@[simp] theorem complete_stepReg (m : Bool) : (complete m s).stepReg = s.stepReg := (rfl)
@[simp] theorem complete_stepUsed (m : Bool) : (complete m s).stepUsed = s.stepUsed := (rfl)
@[simp] theorem complete_digest (m : Bool) : (complete m s).digest = s.digest := (rfl)
@[simp] theorem complete_truncVal (m : Bool) : (complete m s).truncVal = s.truncVal := (rfl)
@[simp] theorem complete_codeVal (m : Bool) : (complete m s).codeVal = s.codeVal := (rfl)
@[simp] theorem complete_code (m : Bool) : (complete m s).code = s.code := (rfl)
@[simp] theorem complete_codeInLen (m : Bool) : (complete m s).codeInLen = s.codeInLen := (rfl)
@[simp] theorem complete_codeIn (m : Bool) : (complete m s).codeIn = s.codeIn := (rfl)
@[simp] theorem complete_pend (m : Bool) : (complete m s).pend = s.pend := (rfl)
@[simp] theorem complete_tlast (m : Bool) : (complete m s).tlast = s.tlast := (rfl)
@[simp] theorem complete_tlastValid (m : Bool) : (complete m s).tlastValid = s.tlastValid := (rfl)
@[simp] theorem complete_resetPin (m : Bool) : (complete m s).resetPin = s.resetPin := (rfl)
@[simp] theorem complete_schedule (m : Bool) : (complete m s).schedule = s.schedule := (rfl)
@[simp] theorem complete_lastResp (m : Bool) : (complete m s).lastResp = s.lastResp := (rfl)
@[simp] theorem complete_timePort (m : Bool) : (complete m s).timePort = s.timePort := (rfl)
@[simp] theorem complete_timeDraws (m : Bool) : (complete m s).timeDraws = s.timeDraws := (rfl)
@[simp] theorem complete_entropyPort (m : Bool) : (complete m s).entropyPort = s.entropyPort := (rfl)
@[simp] theorem complete_entropyDraws (m : Bool) : (complete m s).entropyDraws = s.entropyDraws := (rfl)

/-! ### issue -/

@[simp] theorem issue_status (w : Word) : (issue w s).status = s.status.issued := (rfl)
@[simp] theorem issue_ie (w : Word) : (issue w s).ie = s.ie := (rfl)
@[simp] theorem issue_stepSize (w : Word) : (issue w s).stepSize = s.stepSize := (rfl)
@[simp] theorem issue_tol (w : Word) : (issue w s).tol = s.tol := (rfl)
@[simp] theorem issue_randLen (w : Word) : (issue w s).randLen = s.randLen := (rfl)
@[simp] theorem issue_secretLen (w : Word) : (issue w s).secretLen = s.secretLen := (rfl)
@[simp] theorem issue_secret (w : Word) : (issue w s).secret = s.secret := (rfl)
@[simp] theorem issue_inLen (w : Word) : (issue w s).inLen = s.inLen := (rfl)
@[simp] theorem issue_inBuf (w : Word) : (issue w s).inBuf = s.inBuf := (rfl)
@[simp] theorem issue_outLen (w : Word) : (issue w s).outLen = s.outLen := (rfl)
@[simp] theorem issue_outBuf (w : Word) : (issue w s).outBuf = s.outBuf := (rfl)
@[simp] theorem issue_counter (w : Word) : (issue w s).counter = s.counter := (rfl)
@[simp] theorem issue_ctrbLen (w : Word) : (issue w s).ctrbLen = s.ctrbLen := (rfl)
@[simp] theorem issue_ctrb (w : Word) : (issue w s).ctrb = s.ctrb := (rfl)
@[simp] theorem issue_stepReg (w : Word) : (issue w s).stepReg = s.stepReg := (rfl)
@[simp] theorem issue_stepUsed (w : Word) : (issue w s).stepUsed = s.stepUsed := (rfl)
@[simp] theorem issue_digest (w : Word) : (issue w s).digest = s.digest := (rfl)
@[simp] theorem issue_truncVal (w : Word) : (issue w s).truncVal = s.truncVal := (rfl)
@[simp] theorem issue_codeVal (w : Word) : (issue w s).codeVal = s.codeVal := (rfl)
@[simp] theorem issue_code (w : Word) : (issue w s).code = s.code := (rfl)
@[simp] theorem issue_codeInLen (w : Word) : (issue w s).codeInLen = s.codeInLen := (rfl)
@[simp] theorem issue_codeIn (w : Word) : (issue w s).codeIn = s.codeIn := (rfl)
@[simp] theorem issue_pend (w : Word) : (issue w s).pend = w := (rfl)
@[simp] theorem issue_tlast (w : Word) : (issue w s).tlast = s.tlast := (rfl)
@[simp] theorem issue_tlastValid (w : Word) : (issue w s).tlastValid = s.tlastValid := (rfl)
@[simp] theorem issue_resetPin (w : Word) : (issue w s).resetPin = s.resetPin := (rfl)
@[simp] theorem issue_schedule (w : Word) : (issue w s).schedule = s.schedule := (rfl)
@[simp] theorem issue_lastResp (w : Word) : (issue w s).lastResp = s.lastResp := (rfl)
@[simp] theorem issue_timePort (w : Word) : (issue w s).timePort = s.timePort := (rfl)
@[simp] theorem issue_timeDraws (w : Word) : (issue w s).timeDraws = s.timeDraws := (rfl)
@[simp] theorem issue_entropyPort (w : Word) : (issue w s).entropyPort = s.entropyPort := (rfl)
@[simp] theorem issue_entropyDraws (w : Word) : (issue w s).entropyDraws = s.entropyDraws := (rfl)

/-! ### drawTime -/

@[simp] theorem drawTime_status : (drawTime s).status = s.status := (rfl)
@[simp] theorem drawTime_ie : (drawTime s).ie = s.ie := (rfl)
@[simp] theorem drawTime_stepSize : (drawTime s).stepSize = s.stepSize := (rfl)
@[simp] theorem drawTime_tol : (drawTime s).tol = s.tol := (rfl)
@[simp] theorem drawTime_randLen : (drawTime s).randLen = s.randLen := (rfl)
@[simp] theorem drawTime_secretLen : (drawTime s).secretLen = s.secretLen := (rfl)
@[simp] theorem drawTime_secret : (drawTime s).secret = s.secret := (rfl)
@[simp] theorem drawTime_inLen : (drawTime s).inLen = s.inLen := (rfl)
@[simp] theorem drawTime_inBuf : (drawTime s).inBuf = s.inBuf := (rfl)
@[simp] theorem drawTime_outLen : (drawTime s).outLen = s.outLen := (rfl)
@[simp] theorem drawTime_outBuf : (drawTime s).outBuf = s.outBuf := (rfl)
@[simp] theorem drawTime_counter : (drawTime s).counter = s.counter := (rfl)
@[simp] theorem drawTime_ctrbLen : (drawTime s).ctrbLen = s.ctrbLen := (rfl)
@[simp] theorem drawTime_ctrb : (drawTime s).ctrb = s.ctrb := (rfl)
@[simp] theorem drawTime_stepReg : (drawTime s).stepReg = s.stepReg := (rfl)
@[simp] theorem drawTime_stepUsed : (drawTime s).stepUsed = s.stepUsed := (rfl)
@[simp] theorem drawTime_digest : (drawTime s).digest = s.digest := (rfl)
@[simp] theorem drawTime_truncVal : (drawTime s).truncVal = s.truncVal := (rfl)
@[simp] theorem drawTime_codeVal : (drawTime s).codeVal = s.codeVal := (rfl)
@[simp] theorem drawTime_code : (drawTime s).code = s.code := (rfl)
@[simp] theorem drawTime_codeInLen : (drawTime s).codeInLen = s.codeInLen := (rfl)
@[simp] theorem drawTime_codeIn : (drawTime s).codeIn = s.codeIn := (rfl)
@[simp] theorem drawTime_pend : (drawTime s).pend = s.pend := (rfl)
@[simp] theorem drawTime_tlast : (drawTime s).tlast = s.tlast := (rfl)
@[simp] theorem drawTime_tlastValid : (drawTime s).tlastValid = s.tlastValid := (rfl)
@[simp] theorem drawTime_resetPin : (drawTime s).resetPin = s.resetPin := (rfl)
@[simp] theorem drawTime_schedule : (drawTime s).schedule = s.schedule := (rfl)
@[simp] theorem drawTime_lastResp : (drawTime s).lastResp = s.lastResp := (rfl)
@[simp] theorem drawTime_timePort : (drawTime s).timePort = s.timePort.tail := (rfl)
@[simp] theorem drawTime_timeDraws : (drawTime s).timeDraws = s.timeDraws + 1 := (rfl)
@[simp] theorem drawTime_entropyPort : (drawTime s).entropyPort = s.entropyPort := (rfl)
@[simp] theorem drawTime_entropyDraws : (drawTime s).entropyDraws = s.entropyDraws := (rfl)

/-! ### writeCode -/

@[simp] theorem writeCode_status (c : TruncResult) : (writeCode c s).status = s.status := (rfl)
@[simp] theorem writeCode_ie (c : TruncResult) : (writeCode c s).ie = s.ie := (rfl)
@[simp] theorem writeCode_stepSize (c : TruncResult) : (writeCode c s).stepSize = s.stepSize := (rfl)
@[simp] theorem writeCode_tol (c : TruncResult) : (writeCode c s).tol = s.tol := (rfl)
@[simp] theorem writeCode_randLen (c : TruncResult) : (writeCode c s).randLen = s.randLen := (rfl)
@[simp] theorem writeCode_secretLen (c : TruncResult) : (writeCode c s).secretLen = s.secretLen := (rfl)
@[simp] theorem writeCode_secret (c : TruncResult) : (writeCode c s).secret = s.secret := (rfl)
@[simp] theorem writeCode_inLen (c : TruncResult) : (writeCode c s).inLen = s.inLen := (rfl)
@[simp] theorem writeCode_inBuf (c : TruncResult) : (writeCode c s).inBuf = s.inBuf := (rfl)
@[simp] theorem writeCode_outLen (c : TruncResult) : (writeCode c s).outLen = s.outLen := (rfl)
@[simp] theorem writeCode_outBuf (c : TruncResult) : (writeCode c s).outBuf = s.outBuf := (rfl)
@[simp] theorem writeCode_counter (c : TruncResult) : (writeCode c s).counter = s.counter := (rfl)
@[simp] theorem writeCode_ctrbLen (c : TruncResult) : (writeCode c s).ctrbLen = s.ctrbLen := (rfl)
@[simp] theorem writeCode_ctrb (c : TruncResult) : (writeCode c s).ctrb = s.ctrb := (rfl)
@[simp] theorem writeCode_stepReg (c : TruncResult) : (writeCode c s).stepReg = s.stepReg := (rfl)
@[simp] theorem writeCode_stepUsed (c : TruncResult) : (writeCode c s).stepUsed = s.stepUsed := (rfl)
@[simp] theorem writeCode_digest (c : TruncResult) : (writeCode c s).digest = s.digest := (rfl)
@[simp] theorem writeCode_truncVal (c : TruncResult) : (writeCode c s).truncVal = c.value := (rfl)
@[simp] theorem writeCode_codeVal (c : TruncResult) : (writeCode c s).codeVal = c.codeVal := (rfl)
@[simp] theorem writeCode_code (c : TruncResult) : (writeCode c s).code = codeBytes c.digits := (rfl)
@[simp] theorem writeCode_codeInLen (c : TruncResult) : (writeCode c s).codeInLen = s.codeInLen := (rfl)
@[simp] theorem writeCode_codeIn (c : TruncResult) : (writeCode c s).codeIn = s.codeIn := (rfl)
@[simp] theorem writeCode_pend (c : TruncResult) : (writeCode c s).pend = s.pend := (rfl)
@[simp] theorem writeCode_tlast (c : TruncResult) : (writeCode c s).tlast = s.tlast := (rfl)
@[simp] theorem writeCode_tlastValid (c : TruncResult) : (writeCode c s).tlastValid = s.tlastValid := (rfl)
@[simp] theorem writeCode_resetPin (c : TruncResult) : (writeCode c s).resetPin = s.resetPin := (rfl)
@[simp] theorem writeCode_schedule (c : TruncResult) : (writeCode c s).schedule = s.schedule := (rfl)
@[simp] theorem writeCode_lastResp (c : TruncResult) : (writeCode c s).lastResp = s.lastResp := (rfl)
@[simp] theorem writeCode_timePort (c : TruncResult) : (writeCode c s).timePort = s.timePort := (rfl)
@[simp] theorem writeCode_timeDraws (c : TruncResult) : (writeCode c s).timeDraws = s.timeDraws := (rfl)
@[simp] theorem writeCode_entropyPort (c : TruncResult) : (writeCode c s).entropyPort = s.entropyPort := (rfl)
@[simp] theorem writeCode_entropyDraws (c : TruncResult) : (writeCode c s).entropyDraws = s.entropyDraws := (rfl)

/-! ### writeStepUsed -/

@[simp] theorem writeStepUsed_status (st : BitVec 64) : (writeStepUsed st s).status = s.status := (rfl)
@[simp] theorem writeStepUsed_ie (st : BitVec 64) : (writeStepUsed st s).ie = s.ie := (rfl)
@[simp] theorem writeStepUsed_stepSize (st : BitVec 64) : (writeStepUsed st s).stepSize = s.stepSize := (rfl)
@[simp] theorem writeStepUsed_tol (st : BitVec 64) : (writeStepUsed st s).tol = s.tol := (rfl)
@[simp] theorem writeStepUsed_randLen (st : BitVec 64) : (writeStepUsed st s).randLen = s.randLen := (rfl)
@[simp] theorem writeStepUsed_secretLen (st : BitVec 64) : (writeStepUsed st s).secretLen = s.secretLen := (rfl)
@[simp] theorem writeStepUsed_secret (st : BitVec 64) : (writeStepUsed st s).secret = s.secret := (rfl)
@[simp] theorem writeStepUsed_inLen (st : BitVec 64) : (writeStepUsed st s).inLen = s.inLen := (rfl)
@[simp] theorem writeStepUsed_inBuf (st : BitVec 64) : (writeStepUsed st s).inBuf = s.inBuf := (rfl)
@[simp] theorem writeStepUsed_outLen (st : BitVec 64) : (writeStepUsed st s).outLen = s.outLen := (rfl)
@[simp] theorem writeStepUsed_outBuf (st : BitVec 64) : (writeStepUsed st s).outBuf = s.outBuf := (rfl)
@[simp] theorem writeStepUsed_counter (st : BitVec 64) : (writeStepUsed st s).counter = s.counter := (rfl)
@[simp] theorem writeStepUsed_ctrbLen (st : BitVec 64) : (writeStepUsed st s).ctrbLen = s.ctrbLen := (rfl)
@[simp] theorem writeStepUsed_ctrb (st : BitVec 64) : (writeStepUsed st s).ctrb = s.ctrb := (rfl)
@[simp] theorem writeStepUsed_stepReg (st : BitVec 64) : (writeStepUsed st s).stepReg = s.stepReg := (rfl)
@[simp] theorem writeStepUsed_stepUsed (st : BitVec 64) : (writeStepUsed st s).stepUsed = st := (rfl)
@[simp] theorem writeStepUsed_digest (st : BitVec 64) : (writeStepUsed st s).digest = s.digest := (rfl)
@[simp] theorem writeStepUsed_truncVal (st : BitVec 64) : (writeStepUsed st s).truncVal = s.truncVal := (rfl)
@[simp] theorem writeStepUsed_codeVal (st : BitVec 64) : (writeStepUsed st s).codeVal = s.codeVal := (rfl)
@[simp] theorem writeStepUsed_code (st : BitVec 64) : (writeStepUsed st s).code = s.code := (rfl)
@[simp] theorem writeStepUsed_codeInLen (st : BitVec 64) : (writeStepUsed st s).codeInLen = s.codeInLen := (rfl)
@[simp] theorem writeStepUsed_codeIn (st : BitVec 64) : (writeStepUsed st s).codeIn = s.codeIn := (rfl)
@[simp] theorem writeStepUsed_pend (st : BitVec 64) : (writeStepUsed st s).pend = s.pend := (rfl)
@[simp] theorem writeStepUsed_tlast (st : BitVec 64) : (writeStepUsed st s).tlast = s.tlast := (rfl)
@[simp] theorem writeStepUsed_tlastValid (st : BitVec 64) : (writeStepUsed st s).tlastValid = s.tlastValid := (rfl)
@[simp] theorem writeStepUsed_resetPin (st : BitVec 64) : (writeStepUsed st s).resetPin = s.resetPin := (rfl)
@[simp] theorem writeStepUsed_schedule (st : BitVec 64) : (writeStepUsed st s).schedule = s.schedule := (rfl)
@[simp] theorem writeStepUsed_lastResp (st : BitVec 64) : (writeStepUsed st s).lastResp = s.lastResp := (rfl)
@[simp] theorem writeStepUsed_timePort (st : BitVec 64) : (writeStepUsed st s).timePort = s.timePort := (rfl)
@[simp] theorem writeStepUsed_timeDraws (st : BitVec 64) : (writeStepUsed st s).timeDraws = s.timeDraws := (rfl)
@[simp] theorem writeStepUsed_entropyPort (st : BitVec 64) : (writeStepUsed st s).entropyPort = s.entropyPort := (rfl)
@[simp] theorem writeStepUsed_entropyDraws (st : BitVec 64) : (writeStepUsed st s).entropyDraws = s.entropyDraws := (rfl)

/-! ### acceptTime -/

@[simp] theorem acceptTime_status (t : BitVec 64) : (acceptTime t s).status = s.status := (rfl)
@[simp] theorem acceptTime_ie (t : BitVec 64) : (acceptTime t s).ie = s.ie := (rfl)
@[simp] theorem acceptTime_stepSize (t : BitVec 64) : (acceptTime t s).stepSize = s.stepSize := (rfl)
@[simp] theorem acceptTime_tol (t : BitVec 64) : (acceptTime t s).tol = s.tol := (rfl)
@[simp] theorem acceptTime_randLen (t : BitVec 64) : (acceptTime t s).randLen = s.randLen := (rfl)
@[simp] theorem acceptTime_secretLen (t : BitVec 64) : (acceptTime t s).secretLen = s.secretLen := (rfl)
@[simp] theorem acceptTime_secret (t : BitVec 64) : (acceptTime t s).secret = s.secret := (rfl)
@[simp] theorem acceptTime_inLen (t : BitVec 64) : (acceptTime t s).inLen = s.inLen := (rfl)
@[simp] theorem acceptTime_inBuf (t : BitVec 64) : (acceptTime t s).inBuf = s.inBuf := (rfl)
@[simp] theorem acceptTime_outLen (t : BitVec 64) : (acceptTime t s).outLen = s.outLen := (rfl)
@[simp] theorem acceptTime_outBuf (t : BitVec 64) : (acceptTime t s).outBuf = s.outBuf := (rfl)
@[simp] theorem acceptTime_counter (t : BitVec 64) : (acceptTime t s).counter = s.counter := (rfl)
@[simp] theorem acceptTime_ctrbLen (t : BitVec 64) : (acceptTime t s).ctrbLen = s.ctrbLen := (rfl)
@[simp] theorem acceptTime_ctrb (t : BitVec 64) : (acceptTime t s).ctrb = s.ctrb := (rfl)
@[simp] theorem acceptTime_stepReg (t : BitVec 64) : (acceptTime t s).stepReg = s.stepReg := (rfl)
@[simp] theorem acceptTime_stepUsed (t : BitVec 64) : (acceptTime t s).stepUsed = s.stepUsed := (rfl)
@[simp] theorem acceptTime_digest (t : BitVec 64) : (acceptTime t s).digest = s.digest := (rfl)
@[simp] theorem acceptTime_truncVal (t : BitVec 64) : (acceptTime t s).truncVal = s.truncVal := (rfl)
@[simp] theorem acceptTime_codeVal (t : BitVec 64) : (acceptTime t s).codeVal = s.codeVal := (rfl)
@[simp] theorem acceptTime_code (t : BitVec 64) : (acceptTime t s).code = s.code := (rfl)
@[simp] theorem acceptTime_codeInLen (t : BitVec 64) : (acceptTime t s).codeInLen = s.codeInLen := (rfl)
@[simp] theorem acceptTime_codeIn (t : BitVec 64) : (acceptTime t s).codeIn = s.codeIn := (rfl)
@[simp] theorem acceptTime_pend (t : BitVec 64) : (acceptTime t s).pend = s.pend := (rfl)
@[simp] theorem acceptTime_tlast (t : BitVec 64) : (acceptTime t s).tlast = t := (rfl)
@[simp] theorem acceptTime_tlastValid (t : BitVec 64) : (acceptTime t s).tlastValid = true := (rfl)
@[simp] theorem acceptTime_resetPin (t : BitVec 64) : (acceptTime t s).resetPin = s.resetPin := (rfl)
@[simp] theorem acceptTime_schedule (t : BitVec 64) : (acceptTime t s).schedule = s.schedule := (rfl)
@[simp] theorem acceptTime_lastResp (t : BitVec 64) : (acceptTime t s).lastResp = s.lastResp := (rfl)
@[simp] theorem acceptTime_timePort (t : BitVec 64) : (acceptTime t s).timePort = s.timePort := (rfl)
@[simp] theorem acceptTime_timeDraws (t : BitVec 64) : (acceptTime t s).timeDraws = s.timeDraws := (rfl)
@[simp] theorem acceptTime_entropyPort (t : BitVec 64) : (acceptTime t s).entropyPort = s.entropyPort := (rfl)
@[simp] theorem acceptTime_entropyDraws (t : BitVec 64) : (acceptTime t s).entropyDraws = s.entropyDraws := (rfl)

/-! ### writeOut -/

@[simp] theorem writeOut_status (t : List Byte) : (writeOut t s).status = s.status := (rfl)
@[simp] theorem writeOut_ie (t : List Byte) : (writeOut t s).ie = s.ie := (rfl)
@[simp] theorem writeOut_stepSize (t : List Byte) : (writeOut t s).stepSize = s.stepSize := (rfl)
@[simp] theorem writeOut_tol (t : List Byte) : (writeOut t s).tol = s.tol := (rfl)
@[simp] theorem writeOut_randLen (t : List Byte) : (writeOut t s).randLen = s.randLen := (rfl)
@[simp] theorem writeOut_secretLen (t : List Byte) : (writeOut t s).secretLen = s.secretLen := (rfl)
@[simp] theorem writeOut_secret (t : List Byte) : (writeOut t s).secret = s.secret := (rfl)
@[simp] theorem writeOut_inLen (t : List Byte) : (writeOut t s).inLen = s.inLen := (rfl)
@[simp] theorem writeOut_inBuf (t : List Byte) : (writeOut t s).inBuf = s.inBuf := (rfl)
@[simp] theorem writeOut_outLen (t : List Byte) : (writeOut t s).outLen = BitVec.ofNat 7 t.length := (rfl)
@[simp] theorem writeOut_outBuf (t : List Byte) : (writeOut t s).outBuf = fillBuf 64 t := (rfl)
@[simp] theorem writeOut_counter (t : List Byte) : (writeOut t s).counter = s.counter := (rfl)
@[simp] theorem writeOut_ctrbLen (t : List Byte) : (writeOut t s).ctrbLen = s.ctrbLen := (rfl)
@[simp] theorem writeOut_ctrb (t : List Byte) : (writeOut t s).ctrb = s.ctrb := (rfl)
@[simp] theorem writeOut_stepReg (t : List Byte) : (writeOut t s).stepReg = s.stepReg := (rfl)
@[simp] theorem writeOut_stepUsed (t : List Byte) : (writeOut t s).stepUsed = s.stepUsed := (rfl)
@[simp] theorem writeOut_digest (t : List Byte) : (writeOut t s).digest = s.digest := (rfl)
@[simp] theorem writeOut_truncVal (t : List Byte) : (writeOut t s).truncVal = s.truncVal := (rfl)
@[simp] theorem writeOut_codeVal (t : List Byte) : (writeOut t s).codeVal = s.codeVal := (rfl)
@[simp] theorem writeOut_code (t : List Byte) : (writeOut t s).code = s.code := (rfl)
@[simp] theorem writeOut_codeInLen (t : List Byte) : (writeOut t s).codeInLen = s.codeInLen := (rfl)
@[simp] theorem writeOut_codeIn (t : List Byte) : (writeOut t s).codeIn = s.codeIn := (rfl)
@[simp] theorem writeOut_pend (t : List Byte) : (writeOut t s).pend = s.pend := (rfl)
@[simp] theorem writeOut_tlast (t : List Byte) : (writeOut t s).tlast = s.tlast := (rfl)
@[simp] theorem writeOut_tlastValid (t : List Byte) : (writeOut t s).tlastValid = s.tlastValid := (rfl)
@[simp] theorem writeOut_resetPin (t : List Byte) : (writeOut t s).resetPin = s.resetPin := (rfl)
@[simp] theorem writeOut_schedule (t : List Byte) : (writeOut t s).schedule = s.schedule := (rfl)
@[simp] theorem writeOut_lastResp (t : List Byte) : (writeOut t s).lastResp = s.lastResp := (rfl)
@[simp] theorem writeOut_timePort (t : List Byte) : (writeOut t s).timePort = s.timePort := (rfl)
@[simp] theorem writeOut_timeDraws (t : List Byte) : (writeOut t s).timeDraws = s.timeDraws := (rfl)
@[simp] theorem writeOut_entropyPort (t : List Byte) : (writeOut t s).entropyPort = s.entropyPort := (rfl)
@[simp] theorem writeOut_entropyDraws (t : List Byte) : (writeOut t s).entropyDraws = s.entropyDraws := (rfl)

/-! ### setLocked -/

@[simp] theorem setLocked_status : (setLocked s).status = { s.status with locked := true } := (rfl)
@[simp] theorem setLocked_ie : (setLocked s).ie = s.ie := (rfl)
@[simp] theorem setLocked_stepSize : (setLocked s).stepSize = s.stepSize := (rfl)
@[simp] theorem setLocked_tol : (setLocked s).tol = s.tol := (rfl)
@[simp] theorem setLocked_randLen : (setLocked s).randLen = s.randLen := (rfl)
@[simp] theorem setLocked_secretLen : (setLocked s).secretLen = s.secretLen := (rfl)
@[simp] theorem setLocked_secret : (setLocked s).secret = s.secret := (rfl)
@[simp] theorem setLocked_inLen : (setLocked s).inLen = s.inLen := (rfl)
@[simp] theorem setLocked_inBuf : (setLocked s).inBuf = s.inBuf := (rfl)
@[simp] theorem setLocked_outLen : (setLocked s).outLen = s.outLen := (rfl)
@[simp] theorem setLocked_outBuf : (setLocked s).outBuf = s.outBuf := (rfl)
@[simp] theorem setLocked_counter : (setLocked s).counter = s.counter := (rfl)
@[simp] theorem setLocked_ctrbLen : (setLocked s).ctrbLen = s.ctrbLen := (rfl)
@[simp] theorem setLocked_ctrb : (setLocked s).ctrb = s.ctrb := (rfl)
@[simp] theorem setLocked_stepReg : (setLocked s).stepReg = s.stepReg := (rfl)
@[simp] theorem setLocked_stepUsed : (setLocked s).stepUsed = s.stepUsed := (rfl)
@[simp] theorem setLocked_digest : (setLocked s).digest = s.digest := (rfl)
@[simp] theorem setLocked_truncVal : (setLocked s).truncVal = s.truncVal := (rfl)
@[simp] theorem setLocked_codeVal : (setLocked s).codeVal = s.codeVal := (rfl)
@[simp] theorem setLocked_code : (setLocked s).code = s.code := (rfl)
@[simp] theorem setLocked_codeInLen : (setLocked s).codeInLen = s.codeInLen := (rfl)
@[simp] theorem setLocked_codeIn : (setLocked s).codeIn = s.codeIn := (rfl)
@[simp] theorem setLocked_pend : (setLocked s).pend = s.pend := (rfl)
@[simp] theorem setLocked_tlast : (setLocked s).tlast = s.tlast := (rfl)
@[simp] theorem setLocked_tlastValid : (setLocked s).tlastValid = s.tlastValid := (rfl)
@[simp] theorem setLocked_resetPin : (setLocked s).resetPin = s.resetPin := (rfl)
@[simp] theorem setLocked_schedule : (setLocked s).schedule = s.schedule := (rfl)
@[simp] theorem setLocked_lastResp : (setLocked s).lastResp = s.lastResp := (rfl)
@[simp] theorem setLocked_timePort : (setLocked s).timePort = s.timePort := (rfl)
@[simp] theorem setLocked_timeDraws : (setLocked s).timeDraws = s.timeDraws := (rfl)
@[simp] theorem setLocked_entropyPort : (setLocked s).entropyPort = s.entropyPort := (rfl)
@[simp] theorem setLocked_entropyDraws : (setLocked s).entropyDraws = s.entropyDraws := (rfl)

/-! ### writeSecret -/

@[simp] theorem writeSecret_status (t : List Byte) : (writeSecret t s).status = s.status := (rfl)
@[simp] theorem writeSecret_ie (t : List Byte) : (writeSecret t s).ie = s.ie := (rfl)
@[simp] theorem writeSecret_stepSize (t : List Byte) : (writeSecret t s).stepSize = s.stepSize := (rfl)
@[simp] theorem writeSecret_tol (t : List Byte) : (writeSecret t s).tol = s.tol := (rfl)
@[simp] theorem writeSecret_randLen (t : List Byte) : (writeSecret t s).randLen = s.randLen := (rfl)
@[simp] theorem writeSecret_secretLen (t : List Byte) : (writeSecret t s).secretLen = BitVec.ofNat 7 t.length := (rfl)
@[simp] theorem writeSecret_secret (t : List Byte) : (writeSecret t s).secret = fillBuf 64 t := (rfl)
@[simp] theorem writeSecret_inLen (t : List Byte) : (writeSecret t s).inLen = s.inLen := (rfl)
@[simp] theorem writeSecret_inBuf (t : List Byte) : (writeSecret t s).inBuf = s.inBuf := (rfl)
@[simp] theorem writeSecret_outLen (t : List Byte) : (writeSecret t s).outLen = s.outLen := (rfl)
@[simp] theorem writeSecret_outBuf (t : List Byte) : (writeSecret t s).outBuf = s.outBuf := (rfl)
@[simp] theorem writeSecret_counter (t : List Byte) : (writeSecret t s).counter = s.counter := (rfl)
@[simp] theorem writeSecret_ctrbLen (t : List Byte) : (writeSecret t s).ctrbLen = s.ctrbLen := (rfl)
@[simp] theorem writeSecret_ctrb (t : List Byte) : (writeSecret t s).ctrb = s.ctrb := (rfl)
@[simp] theorem writeSecret_stepReg (t : List Byte) : (writeSecret t s).stepReg = s.stepReg := (rfl)
@[simp] theorem writeSecret_stepUsed (t : List Byte) : (writeSecret t s).stepUsed = s.stepUsed := (rfl)
@[simp] theorem writeSecret_digest (t : List Byte) : (writeSecret t s).digest = s.digest := (rfl)
@[simp] theorem writeSecret_truncVal (t : List Byte) : (writeSecret t s).truncVal = s.truncVal := (rfl)
@[simp] theorem writeSecret_codeVal (t : List Byte) : (writeSecret t s).codeVal = s.codeVal := (rfl)
@[simp] theorem writeSecret_code (t : List Byte) : (writeSecret t s).code = s.code := (rfl)
@[simp] theorem writeSecret_codeInLen (t : List Byte) : (writeSecret t s).codeInLen = s.codeInLen := (rfl)
@[simp] theorem writeSecret_codeIn (t : List Byte) : (writeSecret t s).codeIn = s.codeIn := (rfl)
@[simp] theorem writeSecret_pend (t : List Byte) : (writeSecret t s).pend = s.pend := (rfl)
@[simp] theorem writeSecret_tlast (t : List Byte) : (writeSecret t s).tlast = s.tlast := (rfl)
@[simp] theorem writeSecret_tlastValid (t : List Byte) : (writeSecret t s).tlastValid = s.tlastValid := (rfl)
@[simp] theorem writeSecret_resetPin (t : List Byte) : (writeSecret t s).resetPin = s.resetPin := (rfl)
@[simp] theorem writeSecret_schedule (t : List Byte) : (writeSecret t s).schedule = s.schedule := (rfl)
@[simp] theorem writeSecret_lastResp (t : List Byte) : (writeSecret t s).lastResp = s.lastResp := (rfl)
@[simp] theorem writeSecret_timePort (t : List Byte) : (writeSecret t s).timePort = s.timePort := (rfl)
@[simp] theorem writeSecret_timeDraws (t : List Byte) : (writeSecret t s).timeDraws = s.timeDraws := (rfl)
@[simp] theorem writeSecret_entropyPort (t : List Byte) : (writeSecret t s).entropyPort = s.entropyPort := (rfl)
@[simp] theorem writeSecret_entropyDraws (t : List Byte) : (writeSecret t s).entropyDraws = s.entropyDraws := (rfl)

/-! ### writeCounterBytes -/

@[simp] theorem writeCounterBytes_status (b : Vector Byte 8) : (writeCounterBytes b s).status = s.status := (rfl)
@[simp] theorem writeCounterBytes_ie (b : Vector Byte 8) : (writeCounterBytes b s).ie = s.ie := (rfl)
@[simp] theorem writeCounterBytes_stepSize (b : Vector Byte 8) : (writeCounterBytes b s).stepSize = s.stepSize := (rfl)
@[simp] theorem writeCounterBytes_tol (b : Vector Byte 8) : (writeCounterBytes b s).tol = s.tol := (rfl)
@[simp] theorem writeCounterBytes_randLen (b : Vector Byte 8) : (writeCounterBytes b s).randLen = s.randLen := (rfl)
@[simp] theorem writeCounterBytes_secretLen (b : Vector Byte 8) : (writeCounterBytes b s).secretLen = s.secretLen := (rfl)
@[simp] theorem writeCounterBytes_secret (b : Vector Byte 8) : (writeCounterBytes b s).secret = s.secret := (rfl)
@[simp] theorem writeCounterBytes_inLen (b : Vector Byte 8) : (writeCounterBytes b s).inLen = s.inLen := (rfl)
@[simp] theorem writeCounterBytes_inBuf (b : Vector Byte 8) : (writeCounterBytes b s).inBuf = s.inBuf := (rfl)
@[simp] theorem writeCounterBytes_outLen (b : Vector Byte 8) : (writeCounterBytes b s).outLen = s.outLen := (rfl)
@[simp] theorem writeCounterBytes_outBuf (b : Vector Byte 8) : (writeCounterBytes b s).outBuf = s.outBuf := (rfl)
@[simp] theorem writeCounterBytes_counter (b : Vector Byte 8) : (writeCounterBytes b s).counter = s.counter := (rfl)
@[simp] theorem writeCounterBytes_ctrbLen (b : Vector Byte 8) : (writeCounterBytes b s).ctrbLen = 8#4 := (rfl)
@[simp] theorem writeCounterBytes_ctrb (b : Vector Byte 8) : (writeCounterBytes b s).ctrb = b := (rfl)
@[simp] theorem writeCounterBytes_stepReg (b : Vector Byte 8) : (writeCounterBytes b s).stepReg = s.stepReg := (rfl)
@[simp] theorem writeCounterBytes_stepUsed (b : Vector Byte 8) : (writeCounterBytes b s).stepUsed = s.stepUsed := (rfl)
@[simp] theorem writeCounterBytes_digest (b : Vector Byte 8) : (writeCounterBytes b s).digest = s.digest := (rfl)
@[simp] theorem writeCounterBytes_truncVal (b : Vector Byte 8) : (writeCounterBytes b s).truncVal = s.truncVal := (rfl)
@[simp] theorem writeCounterBytes_codeVal (b : Vector Byte 8) : (writeCounterBytes b s).codeVal = s.codeVal := (rfl)
@[simp] theorem writeCounterBytes_code (b : Vector Byte 8) : (writeCounterBytes b s).code = s.code := (rfl)
@[simp] theorem writeCounterBytes_codeInLen (b : Vector Byte 8) : (writeCounterBytes b s).codeInLen = s.codeInLen := (rfl)
@[simp] theorem writeCounterBytes_codeIn (b : Vector Byte 8) : (writeCounterBytes b s).codeIn = s.codeIn := (rfl)
@[simp] theorem writeCounterBytes_pend (b : Vector Byte 8) : (writeCounterBytes b s).pend = s.pend := (rfl)
@[simp] theorem writeCounterBytes_tlast (b : Vector Byte 8) : (writeCounterBytes b s).tlast = s.tlast := (rfl)
@[simp] theorem writeCounterBytes_tlastValid (b : Vector Byte 8) : (writeCounterBytes b s).tlastValid = s.tlastValid := (rfl)
@[simp] theorem writeCounterBytes_resetPin (b : Vector Byte 8) : (writeCounterBytes b s).resetPin = s.resetPin := (rfl)
@[simp] theorem writeCounterBytes_schedule (b : Vector Byte 8) : (writeCounterBytes b s).schedule = s.schedule := (rfl)
@[simp] theorem writeCounterBytes_lastResp (b : Vector Byte 8) : (writeCounterBytes b s).lastResp = s.lastResp := (rfl)
@[simp] theorem writeCounterBytes_timePort (b : Vector Byte 8) : (writeCounterBytes b s).timePort = s.timePort := (rfl)
@[simp] theorem writeCounterBytes_timeDraws (b : Vector Byte 8) : (writeCounterBytes b s).timeDraws = s.timeDraws := (rfl)
@[simp] theorem writeCounterBytes_entropyPort (b : Vector Byte 8) : (writeCounterBytes b s).entropyPort = s.entropyPort := (rfl)
@[simp] theorem writeCounterBytes_entropyDraws (b : Vector Byte 8) : (writeCounterBytes b s).entropyDraws = s.entropyDraws := (rfl)

/-! ### dropBusy -/

@[simp] theorem dropBusy_status : (dropBusy s).status = { s.status with wbusy := true } := (rfl)
@[simp] theorem dropBusy_ie : (dropBusy s).ie = s.ie := (rfl)
@[simp] theorem dropBusy_stepSize : (dropBusy s).stepSize = s.stepSize := (rfl)
@[simp] theorem dropBusy_tol : (dropBusy s).tol = s.tol := (rfl)
@[simp] theorem dropBusy_randLen : (dropBusy s).randLen = s.randLen := (rfl)
@[simp] theorem dropBusy_secretLen : (dropBusy s).secretLen = s.secretLen := (rfl)
@[simp] theorem dropBusy_secret : (dropBusy s).secret = s.secret := (rfl)
@[simp] theorem dropBusy_inLen : (dropBusy s).inLen = s.inLen := (rfl)
@[simp] theorem dropBusy_inBuf : (dropBusy s).inBuf = s.inBuf := (rfl)
@[simp] theorem dropBusy_outLen : (dropBusy s).outLen = s.outLen := (rfl)
@[simp] theorem dropBusy_outBuf : (dropBusy s).outBuf = s.outBuf := (rfl)
@[simp] theorem dropBusy_counter : (dropBusy s).counter = s.counter := (rfl)
@[simp] theorem dropBusy_ctrbLen : (dropBusy s).ctrbLen = s.ctrbLen := (rfl)
@[simp] theorem dropBusy_ctrb : (dropBusy s).ctrb = s.ctrb := (rfl)
@[simp] theorem dropBusy_stepReg : (dropBusy s).stepReg = s.stepReg := (rfl)
@[simp] theorem dropBusy_stepUsed : (dropBusy s).stepUsed = s.stepUsed := (rfl)
@[simp] theorem dropBusy_digest : (dropBusy s).digest = s.digest := (rfl)
@[simp] theorem dropBusy_truncVal : (dropBusy s).truncVal = s.truncVal := (rfl)
@[simp] theorem dropBusy_codeVal : (dropBusy s).codeVal = s.codeVal := (rfl)
@[simp] theorem dropBusy_code : (dropBusy s).code = s.code := (rfl)
@[simp] theorem dropBusy_codeInLen : (dropBusy s).codeInLen = s.codeInLen := (rfl)
@[simp] theorem dropBusy_codeIn : (dropBusy s).codeIn = s.codeIn := (rfl)
@[simp] theorem dropBusy_pend : (dropBusy s).pend = s.pend := (rfl)
@[simp] theorem dropBusy_tlast : (dropBusy s).tlast = s.tlast := (rfl)
@[simp] theorem dropBusy_tlastValid : (dropBusy s).tlastValid = s.tlastValid := (rfl)
@[simp] theorem dropBusy_resetPin : (dropBusy s).resetPin = s.resetPin := (rfl)
@[simp] theorem dropBusy_schedule : (dropBusy s).schedule = s.schedule := (rfl)
@[simp] theorem dropBusy_lastResp : (dropBusy s).lastResp = s.lastResp := (rfl)
@[simp] theorem dropBusy_timePort : (dropBusy s).timePort = s.timePort := (rfl)
@[simp] theorem dropBusy_timeDraws : (dropBusy s).timeDraws = s.timeDraws := (rfl)
@[simp] theorem dropBusy_entropyPort : (dropBusy s).entropyPort = s.entropyPort := (rfl)
@[simp] theorem dropBusy_entropyDraws : (dropBusy s).entropyDraws = s.entropyDraws := (rfl)

/-! ### dropLocked -/

@[simp] theorem dropLocked_status : (dropLocked s).status = { s.status with wlock := true } := (rfl)
@[simp] theorem dropLocked_ie : (dropLocked s).ie = s.ie := (rfl)
@[simp] theorem dropLocked_stepSize : (dropLocked s).stepSize = s.stepSize := (rfl)
@[simp] theorem dropLocked_tol : (dropLocked s).tol = s.tol := (rfl)
@[simp] theorem dropLocked_randLen : (dropLocked s).randLen = s.randLen := (rfl)
@[simp] theorem dropLocked_secretLen : (dropLocked s).secretLen = s.secretLen := (rfl)
@[simp] theorem dropLocked_secret : (dropLocked s).secret = s.secret := (rfl)
@[simp] theorem dropLocked_inLen : (dropLocked s).inLen = s.inLen := (rfl)
@[simp] theorem dropLocked_inBuf : (dropLocked s).inBuf = s.inBuf := (rfl)
@[simp] theorem dropLocked_outLen : (dropLocked s).outLen = s.outLen := (rfl)
@[simp] theorem dropLocked_outBuf : (dropLocked s).outBuf = s.outBuf := (rfl)
@[simp] theorem dropLocked_counter : (dropLocked s).counter = s.counter := (rfl)
@[simp] theorem dropLocked_ctrbLen : (dropLocked s).ctrbLen = s.ctrbLen := (rfl)
@[simp] theorem dropLocked_ctrb : (dropLocked s).ctrb = s.ctrb := (rfl)
@[simp] theorem dropLocked_stepReg : (dropLocked s).stepReg = s.stepReg := (rfl)
@[simp] theorem dropLocked_stepUsed : (dropLocked s).stepUsed = s.stepUsed := (rfl)
@[simp] theorem dropLocked_digest : (dropLocked s).digest = s.digest := (rfl)
@[simp] theorem dropLocked_truncVal : (dropLocked s).truncVal = s.truncVal := (rfl)
@[simp] theorem dropLocked_codeVal : (dropLocked s).codeVal = s.codeVal := (rfl)
@[simp] theorem dropLocked_code : (dropLocked s).code = s.code := (rfl)
@[simp] theorem dropLocked_codeInLen : (dropLocked s).codeInLen = s.codeInLen := (rfl)
@[simp] theorem dropLocked_codeIn : (dropLocked s).codeIn = s.codeIn := (rfl)
@[simp] theorem dropLocked_pend : (dropLocked s).pend = s.pend := (rfl)
@[simp] theorem dropLocked_tlast : (dropLocked s).tlast = s.tlast := (rfl)
@[simp] theorem dropLocked_tlastValid : (dropLocked s).tlastValid = s.tlastValid := (rfl)
@[simp] theorem dropLocked_resetPin : (dropLocked s).resetPin = s.resetPin := (rfl)
@[simp] theorem dropLocked_schedule : (dropLocked s).schedule = s.schedule := (rfl)
@[simp] theorem dropLocked_lastResp : (dropLocked s).lastResp = s.lastResp := (rfl)
@[simp] theorem dropLocked_timePort : (dropLocked s).timePort = s.timePort := (rfl)
@[simp] theorem dropLocked_timeDraws : (dropLocked s).timeDraws = s.timeDraws := (rfl)
@[simp] theorem dropLocked_entropyPort : (dropLocked s).entropyPort = s.entropyPort := (rfl)
@[simp] theorem dropLocked_entropyDraws : (dropLocked s).entropyDraws = s.entropyDraws := (rfl)

/-! ### respond -/

@[simp] theorem respond_status (o : Bool) (d : Option Word) : (respond o d s).status = s.status := (rfl)
@[simp] theorem respond_ie (o : Bool) (d : Option Word) : (respond o d s).ie = s.ie := (rfl)
@[simp] theorem respond_stepSize (o : Bool) (d : Option Word) : (respond o d s).stepSize = s.stepSize := (rfl)
@[simp] theorem respond_tol (o : Bool) (d : Option Word) : (respond o d s).tol = s.tol := (rfl)
@[simp] theorem respond_randLen (o : Bool) (d : Option Word) : (respond o d s).randLen = s.randLen := (rfl)
@[simp] theorem respond_secretLen (o : Bool) (d : Option Word) : (respond o d s).secretLen = s.secretLen := (rfl)
@[simp] theorem respond_secret (o : Bool) (d : Option Word) : (respond o d s).secret = s.secret := (rfl)
@[simp] theorem respond_inLen (o : Bool) (d : Option Word) : (respond o d s).inLen = s.inLen := (rfl)
@[simp] theorem respond_inBuf (o : Bool) (d : Option Word) : (respond o d s).inBuf = s.inBuf := (rfl)
@[simp] theorem respond_outLen (o : Bool) (d : Option Word) : (respond o d s).outLen = s.outLen := (rfl)
@[simp] theorem respond_outBuf (o : Bool) (d : Option Word) : (respond o d s).outBuf = s.outBuf := (rfl)
@[simp] theorem respond_counter (o : Bool) (d : Option Word) : (respond o d s).counter = s.counter := (rfl)
@[simp] theorem respond_ctrbLen (o : Bool) (d : Option Word) : (respond o d s).ctrbLen = s.ctrbLen := (rfl)
@[simp] theorem respond_ctrb (o : Bool) (d : Option Word) : (respond o d s).ctrb = s.ctrb := (rfl)
@[simp] theorem respond_stepReg (o : Bool) (d : Option Word) : (respond o d s).stepReg = s.stepReg := (rfl)
@[simp] theorem respond_stepUsed (o : Bool) (d : Option Word) : (respond o d s).stepUsed = s.stepUsed := (rfl)
@[simp] theorem respond_digest (o : Bool) (d : Option Word) : (respond o d s).digest = s.digest := (rfl)
@[simp] theorem respond_truncVal (o : Bool) (d : Option Word) : (respond o d s).truncVal = s.truncVal := (rfl)
@[simp] theorem respond_codeVal (o : Bool) (d : Option Word) : (respond o d s).codeVal = s.codeVal := (rfl)
@[simp] theorem respond_code (o : Bool) (d : Option Word) : (respond o d s).code = s.code := (rfl)
@[simp] theorem respond_codeInLen (o : Bool) (d : Option Word) : (respond o d s).codeInLen = s.codeInLen := (rfl)
@[simp] theorem respond_codeIn (o : Bool) (d : Option Word) : (respond o d s).codeIn = s.codeIn := (rfl)
@[simp] theorem respond_pend (o : Bool) (d : Option Word) : (respond o d s).pend = s.pend := (rfl)
@[simp] theorem respond_tlast (o : Bool) (d : Option Word) : (respond o d s).tlast = s.tlast := (rfl)
@[simp] theorem respond_tlastValid (o : Bool) (d : Option Word) : (respond o d s).tlastValid = s.tlastValid := (rfl)
@[simp] theorem respond_resetPin (o : Bool) (d : Option Word) : (respond o d s).resetPin = s.resetPin := (rfl)
@[simp] theorem respond_schedule (o : Bool) (d : Option Word) : (respond o d s).schedule = s.schedule := (rfl)
@[simp] theorem respond_lastResp (o : Bool) (d : Option Word) : (respond o d s).lastResp = some ⟨o, d⟩ := (rfl)
@[simp] theorem respond_timePort (o : Bool) (d : Option Word) : (respond o d s).timePort = s.timePort := (rfl)
@[simp] theorem respond_timeDraws (o : Bool) (d : Option Word) : (respond o d s).timeDraws = s.timeDraws := (rfl)
@[simp] theorem respond_entropyPort (o : Bool) (d : Option Word) : (respond o d s).entropyPort = s.entropyPort := (rfl)
@[simp] theorem respond_entropyDraws (o : Bool) (d : Option Word) : (respond o d s).entropyDraws = s.entropyDraws := (rfl)

/-! ### noAnswer -/

@[simp] theorem noAnswer_status : (noAnswer s).status = s.status := (rfl)
@[simp] theorem noAnswer_ie : (noAnswer s).ie = s.ie := (rfl)
@[simp] theorem noAnswer_stepSize : (noAnswer s).stepSize = s.stepSize := (rfl)
@[simp] theorem noAnswer_tol : (noAnswer s).tol = s.tol := (rfl)
@[simp] theorem noAnswer_randLen : (noAnswer s).randLen = s.randLen := (rfl)
@[simp] theorem noAnswer_secretLen : (noAnswer s).secretLen = s.secretLen := (rfl)
@[simp] theorem noAnswer_secret : (noAnswer s).secret = s.secret := (rfl)
@[simp] theorem noAnswer_inLen : (noAnswer s).inLen = s.inLen := (rfl)
@[simp] theorem noAnswer_inBuf : (noAnswer s).inBuf = s.inBuf := (rfl)
@[simp] theorem noAnswer_outLen : (noAnswer s).outLen = s.outLen := (rfl)
@[simp] theorem noAnswer_outBuf : (noAnswer s).outBuf = s.outBuf := (rfl)
@[simp] theorem noAnswer_counter : (noAnswer s).counter = s.counter := (rfl)
@[simp] theorem noAnswer_ctrbLen : (noAnswer s).ctrbLen = s.ctrbLen := (rfl)
@[simp] theorem noAnswer_ctrb : (noAnswer s).ctrb = s.ctrb := (rfl)
@[simp] theorem noAnswer_stepReg : (noAnswer s).stepReg = s.stepReg := (rfl)
@[simp] theorem noAnswer_stepUsed : (noAnswer s).stepUsed = s.stepUsed := (rfl)
@[simp] theorem noAnswer_digest : (noAnswer s).digest = s.digest := (rfl)
@[simp] theorem noAnswer_truncVal : (noAnswer s).truncVal = s.truncVal := (rfl)
@[simp] theorem noAnswer_codeVal : (noAnswer s).codeVal = s.codeVal := (rfl)
@[simp] theorem noAnswer_code : (noAnswer s).code = s.code := (rfl)
@[simp] theorem noAnswer_codeInLen : (noAnswer s).codeInLen = s.codeInLen := (rfl)
@[simp] theorem noAnswer_codeIn : (noAnswer s).codeIn = s.codeIn := (rfl)
@[simp] theorem noAnswer_pend : (noAnswer s).pend = s.pend := (rfl)
@[simp] theorem noAnswer_tlast : (noAnswer s).tlast = s.tlast := (rfl)
@[simp] theorem noAnswer_tlastValid : (noAnswer s).tlastValid = s.tlastValid := (rfl)
@[simp] theorem noAnswer_resetPin : (noAnswer s).resetPin = s.resetPin := (rfl)
@[simp] theorem noAnswer_schedule : (noAnswer s).schedule = s.schedule := (rfl)
@[simp] theorem noAnswer_lastResp : (noAnswer s).lastResp = none := (rfl)
@[simp] theorem noAnswer_timePort : (noAnswer s).timePort = s.timePort := (rfl)
@[simp] theorem noAnswer_timeDraws : (noAnswer s).timeDraws = s.timeDraws := (rfl)
@[simp] theorem noAnswer_entropyPort : (noAnswer s).entropyPort = s.entropyPort := (rfl)
@[simp] theorem noAnswer_entropyDraws : (noAnswer s).entropyDraws = s.entropyDraws := (rfl)

/-! ### popped -/

@[simp] theorem popped_status : (s.popped).status = s.status := (rfl)
@[simp] theorem popped_ie : (s.popped).ie = s.ie := (rfl)
@[simp] theorem popped_stepSize : (s.popped).stepSize = s.stepSize := (rfl)
@[simp] theorem popped_tol : (s.popped).tol = s.tol := (rfl)
@[simp] theorem popped_randLen : (s.popped).randLen = s.randLen := (rfl)
@[simp] theorem popped_secretLen : (s.popped).secretLen = s.secretLen := (rfl)
@[simp] theorem popped_secret : (s.popped).secret = s.secret := (rfl)
@[simp] theorem popped_inLen : (s.popped).inLen = s.inLen := (rfl)
@[simp] theorem popped_inBuf : (s.popped).inBuf = s.inBuf := (rfl)
@[simp] theorem popped_outLen : (s.popped).outLen = s.outLen := (rfl)
@[simp] theorem popped_outBuf : (s.popped).outBuf = s.outBuf := (rfl)
@[simp] theorem popped_counter : (s.popped).counter = s.counter := (rfl)
@[simp] theorem popped_ctrbLen : (s.popped).ctrbLen = s.ctrbLen := (rfl)
@[simp] theorem popped_ctrb : (s.popped).ctrb = s.ctrb := (rfl)
@[simp] theorem popped_stepReg : (s.popped).stepReg = s.stepReg := (rfl)
@[simp] theorem popped_stepUsed : (s.popped).stepUsed = s.stepUsed := (rfl)
@[simp] theorem popped_digest : (s.popped).digest = s.digest := (rfl)
@[simp] theorem popped_truncVal : (s.popped).truncVal = s.truncVal := (rfl)
@[simp] theorem popped_codeVal : (s.popped).codeVal = s.codeVal := (rfl)
@[simp] theorem popped_code : (s.popped).code = s.code := (rfl)
@[simp] theorem popped_codeInLen : (s.popped).codeInLen = s.codeInLen := (rfl)
@[simp] theorem popped_codeIn : (s.popped).codeIn = s.codeIn := (rfl)
@[simp] theorem popped_pend : (s.popped).pend = s.pend := (rfl)
@[simp] theorem popped_tlast : (s.popped).tlast = s.tlast := (rfl)
@[simp] theorem popped_tlastValid : (s.popped).tlastValid = s.tlastValid := (rfl)
@[simp] theorem popped_resetPin : (s.popped).resetPin = s.resetPin := (rfl)
@[simp] theorem popped_schedule : (s.popped).schedule = s.schedule.tail := (rfl)
@[simp] theorem popped_lastResp : (s.popped).lastResp = s.lastResp := (rfl)
@[simp] theorem popped_timePort : (s.popped).timePort = s.timePort := (rfl)
@[simp] theorem popped_timeDraws : (s.popped).timeDraws = s.timeDraws := (rfl)
@[simp] theorem popped_entropyPort : (s.popped).entropyPort = s.entropyPort := (rfl)
@[simp] theorem popped_entropyDraws : (s.popped).entropyDraws = s.entropyDraws := (rfl)

/-! ### resetRegisters, assertReset -/

@[simp] theorem resetRegisters_status : (resetRegisters s).status = State.reset.status := (rfl)
@[simp] theorem resetRegisters_ie : (resetRegisters s).ie = State.reset.ie := (rfl)
@[simp] theorem resetRegisters_stepSize : (resetRegisters s).stepSize = State.reset.stepSize := (rfl)
@[simp] theorem resetRegisters_tol : (resetRegisters s).tol = State.reset.tol := (rfl)
@[simp] theorem resetRegisters_randLen : (resetRegisters s).randLen = State.reset.randLen := (rfl)
@[simp] theorem resetRegisters_secretLen : (resetRegisters s).secretLen = State.reset.secretLen := (rfl)
@[simp] theorem resetRegisters_secret : (resetRegisters s).secret = State.reset.secret := (rfl)
@[simp] theorem resetRegisters_inLen : (resetRegisters s).inLen = State.reset.inLen := (rfl)
@[simp] theorem resetRegisters_inBuf : (resetRegisters s).inBuf = State.reset.inBuf := (rfl)
@[simp] theorem resetRegisters_outLen : (resetRegisters s).outLen = State.reset.outLen := (rfl)
@[simp] theorem resetRegisters_outBuf : (resetRegisters s).outBuf = State.reset.outBuf := (rfl)
@[simp] theorem resetRegisters_counter : (resetRegisters s).counter = State.reset.counter := (rfl)
@[simp] theorem resetRegisters_ctrbLen : (resetRegisters s).ctrbLen = State.reset.ctrbLen := (rfl)
@[simp] theorem resetRegisters_ctrb : (resetRegisters s).ctrb = State.reset.ctrb := (rfl)
@[simp] theorem resetRegisters_stepReg : (resetRegisters s).stepReg = State.reset.stepReg := (rfl)
@[simp] theorem resetRegisters_stepUsed : (resetRegisters s).stepUsed = State.reset.stepUsed := (rfl)
@[simp] theorem resetRegisters_digest : (resetRegisters s).digest = State.reset.digest := (rfl)
@[simp] theorem resetRegisters_truncVal : (resetRegisters s).truncVal = State.reset.truncVal := (rfl)
@[simp] theorem resetRegisters_codeVal : (resetRegisters s).codeVal = State.reset.codeVal := (rfl)
@[simp] theorem resetRegisters_code : (resetRegisters s).code = State.reset.code := (rfl)
@[simp] theorem resetRegisters_codeInLen : (resetRegisters s).codeInLen = State.reset.codeInLen := (rfl)
@[simp] theorem resetRegisters_codeIn : (resetRegisters s).codeIn = State.reset.codeIn := (rfl)
@[simp] theorem resetRegisters_pend : (resetRegisters s).pend = State.reset.pend := (rfl)
@[simp] theorem resetRegisters_tlast : (resetRegisters s).tlast = State.reset.tlast := (rfl)
@[simp] theorem resetRegisters_tlastValid : (resetRegisters s).tlastValid = State.reset.tlastValid := (rfl)
@[simp] theorem resetRegisters_resetPin : (resetRegisters s).resetPin = s.resetPin := (rfl)
@[simp] theorem resetRegisters_schedule : (resetRegisters s).schedule = s.schedule := (rfl)
@[simp] theorem resetRegisters_lastResp : (resetRegisters s).lastResp = State.reset.lastResp := (rfl)
@[simp] theorem resetRegisters_timePort : (resetRegisters s).timePort = s.timePort := (rfl)
@[simp] theorem resetRegisters_timeDraws : (resetRegisters s).timeDraws = s.timeDraws := (rfl)
@[simp] theorem resetRegisters_entropyPort : (resetRegisters s).entropyPort = s.entropyPort := (rfl)
@[simp] theorem resetRegisters_entropyDraws : (resetRegisters s).entropyDraws = s.entropyDraws := (rfl)

@[simp] theorem assertReset_status : (assertReset s).status = State.reset.status := (rfl)
@[simp] theorem assertReset_ie : (assertReset s).ie = State.reset.ie := (rfl)
@[simp] theorem assertReset_stepSize : (assertReset s).stepSize = State.reset.stepSize := (rfl)
@[simp] theorem assertReset_tol : (assertReset s).tol = State.reset.tol := (rfl)
@[simp] theorem assertReset_randLen : (assertReset s).randLen = State.reset.randLen := (rfl)
@[simp] theorem assertReset_secretLen : (assertReset s).secretLen = State.reset.secretLen := (rfl)
@[simp] theorem assertReset_secret : (assertReset s).secret = State.reset.secret := (rfl)
@[simp] theorem assertReset_inLen : (assertReset s).inLen = State.reset.inLen := (rfl)
@[simp] theorem assertReset_inBuf : (assertReset s).inBuf = State.reset.inBuf := (rfl)
@[simp] theorem assertReset_outLen : (assertReset s).outLen = State.reset.outLen := (rfl)
@[simp] theorem assertReset_outBuf : (assertReset s).outBuf = State.reset.outBuf := (rfl)
@[simp] theorem assertReset_counter : (assertReset s).counter = State.reset.counter := (rfl)
@[simp] theorem assertReset_ctrbLen : (assertReset s).ctrbLen = State.reset.ctrbLen := (rfl)
@[simp] theorem assertReset_ctrb : (assertReset s).ctrb = State.reset.ctrb := (rfl)
@[simp] theorem assertReset_stepReg : (assertReset s).stepReg = State.reset.stepReg := (rfl)
@[simp] theorem assertReset_stepUsed : (assertReset s).stepUsed = State.reset.stepUsed := (rfl)
@[simp] theorem assertReset_digest : (assertReset s).digest = State.reset.digest := (rfl)
@[simp] theorem assertReset_truncVal : (assertReset s).truncVal = State.reset.truncVal := (rfl)
@[simp] theorem assertReset_codeVal : (assertReset s).codeVal = State.reset.codeVal := (rfl)
@[simp] theorem assertReset_code : (assertReset s).code = State.reset.code := (rfl)
@[simp] theorem assertReset_codeInLen : (assertReset s).codeInLen = State.reset.codeInLen := (rfl)
@[simp] theorem assertReset_codeIn : (assertReset s).codeIn = State.reset.codeIn := (rfl)
@[simp] theorem assertReset_pend : (assertReset s).pend = State.reset.pend := (rfl)
@[simp] theorem assertReset_tlast : (assertReset s).tlast = State.reset.tlast := (rfl)
@[simp] theorem assertReset_tlastValid : (assertReset s).tlastValid = State.reset.tlastValid := (rfl)
@[simp] theorem assertReset_resetPin : (assertReset s).resetPin = true := (rfl)
@[simp] theorem assertReset_schedule : (assertReset s).schedule = s.schedule := (rfl)
@[simp] theorem assertReset_lastResp : (assertReset s).lastResp = State.reset.lastResp := (rfl)
@[simp] theorem assertReset_timePort : (assertReset s).timePort = s.timePort := (rfl)
@[simp] theorem assertReset_timeDraws : (assertReset s).timeDraws = s.timeDraws := (rfl)
@[simp] theorem assertReset_entropyPort : (assertReset s).entropyPort = s.entropyPort := (rfl)
@[simp] theorem assertReset_entropyDraws : (assertReset s).entropyDraws = s.entropyDraws := (rfl)

/-! ### STATUS -/

variable (f : Status)

@[simp] theorem issued_busy : (f.issued).busy = true := (rfl)
@[simp] theorem issued_done : (f.issued).done = false := (rfl)
@[simp] theorem issued_matched : (f.issued).matched = f.matched := (rfl)
@[simp] theorem issued_locked : (f.issued).locked = f.locked := (rfl)
@[simp] theorem issued_err : (f.issued).err = f.err := (rfl)
@[simp] theorem issued_wbusy : (f.issued).wbusy = f.wbusy := (rfl)
@[simp] theorem issued_wlock : (f.issued).wlock = f.wlock := (rfl)

@[simp] theorem completed_busy (m : Bool) : (f.completed m).busy = false := (rfl)
@[simp] theorem completed_done (m : Bool) : (f.completed m).done = true := (rfl)
@[simp] theorem completed_matched (m : Bool) : (f.completed m).matched = m := (rfl)
@[simp] theorem completed_locked (m : Bool) : (f.completed m).locked = f.locked := (rfl)
@[simp] theorem completed_err (m : Bool) : (f.completed m).err = .ok := (rfl)
@[simp] theorem completed_wbusy (m : Bool) : (f.completed m).wbusy = f.wbusy := (rfl)
@[simp] theorem completed_wlock (m : Bool) : (f.completed m).wlock = f.wlock := (rfl)

@[simp] theorem failed_busy (e : ErrCode) : (f.failed e).busy = false := (rfl)
@[simp] theorem failed_done (e : ErrCode) : (f.failed e).done = true := (rfl)
@[simp] theorem failed_matched (e : ErrCode) : (f.failed e).matched = false := (rfl)
@[simp] theorem failed_locked (e : ErrCode) : (f.failed e).locked = f.locked := (rfl)
@[simp] theorem failed_err (e : ErrCode) : (f.failed e).err = e := (rfl)
@[simp] theorem failed_wbusy (e : ErrCode) : (f.failed e).wbusy = f.wbusy := (rfl)
@[simp] theorem failed_wlock (e : ErrCode) : (f.failed e).wlock = f.wlock := (rfl)

@[simp] theorem writeOneToClear_busy (v : Word) : (f.writeOneToClear v).busy = f.busy := (rfl)
@[simp] theorem writeOneToClear_done (v : Word) : (f.writeOneToClear v).done = (f.done && !v.getLsbD 1) := (rfl)
@[simp] theorem writeOneToClear_matched (v : Word) : (f.writeOneToClear v).matched = f.matched := (rfl)
@[simp] theorem writeOneToClear_locked (v : Word) : (f.writeOneToClear v).locked = f.locked := (rfl)
@[simp] theorem writeOneToClear_err (v : Word) : (f.writeOneToClear v).err = f.err := (rfl)
@[simp] theorem writeOneToClear_wbusy (v : Word) : (f.writeOneToClear v).wbusy = (f.wbusy && !v.getLsbD 8) := (rfl)
@[simp] theorem writeOneToClear_wlock (v : Word) : (f.writeOneToClear v).wlock = (f.wlock && !v.getLsbD 9) := (rfl)

end Sys2Proof.Machine
end

