-- ==== Sys2Proof/Laws/Ops.lean ====
section
/-! SUPPORT. What each shared operation and each command can do, said once: whose turn a step is, what an access does, how
each command ends. Later proofs cite these instead of unfolding `step`, `windowAccess`, `writeWord` or `exec`. -/
namespace Sys2Proof.Machine

/-! ### The engine's turn -/

theorem engineStep_of_busy {s : State} (hp : s.resetPin = false) (hb : s.status.busy = true) :
    engineStep s = match decode s.pend with
      | .illegal _ => .next (raiseError .illegalCmd s)
      | .instr i => exec i s := by
  cases hd : decode s.pend <;>
    simp only [engineStep, hp, hb, hd, Bool.not_true, Bool.or_self, Bool.false_eq_true, if_false]

/-- On the engine's turn a step is R39's: ILLEGAL_CMD for an illegal word, else the command. -/
theorem engineTurn_step {s : State} (h : s.EngineTurn) :
    step s = match decode s.pend with
      | .illegal _ => .next (raiseError .illegalCmd s.popped)
      | .instr i => exec i s.popped := by
  obtain ⟨hp, hb, hs | ⟨rest, hs⟩⟩ := h
  · have e : s.popped = s := by cases s; simp_all [State.popped]
    rw [e]; simp only [step, advance, hs]; exact engineStep_of_busy hp hb
  · have e : s.popped = { s with schedule := rest } := by simp [State.popped, hs]
    rw [e]; simp only [step, advance, runEvent, hs]; exact engineStep_of_busy (s := { s with schedule := rest }) hp hb

theorem popped_of_nil {s : State} (h : s.schedule = []) : s.popped = s := by
  cases s; simp_all [State.popped]

theorem popped_of_cons {s : State} {e : Event} {rest : List Event} (h : s.schedule = e :: rest) :
    s.popped = { s with schedule := rest } := by simp [State.popped, h]

/-- `toOption` is none exactly for the illegal words. -/
theorem decoded_cases (d : Decoded) : (∃ i, d = .instr i) ∨ (∃ w, d = .illegal w ∧ d.toOption = none) := by
  cases d with
  | instr i => exact .inl ⟨i, rfl⟩
  | illegal w => exact .inr ⟨w, rfl, rfl⟩

theorem engineTurn_illegal {s : State} (h : s.EngineTurn) (hd : (decode s.pend).toOption = none) :
    step s = .next (raiseError .illegalCmd s.popped) := by
  rw [engineTurn_step h]
  rcases decoded_cases (decode s.pend) with ⟨i, hi⟩ | ⟨w, hw, -⟩
  · rw [hi] at hd; cases hd
  · rw [hw]

/-! ### The host's turn -/

theorem windowOffset_base (off : Nat) (h : off < 0x200) : windowOffset (Config.otpbBase + off) = some off := by
  simp [windowOffset, Config.windowSize, h]

/-- A host access in the window is served by the register window. -/
theorem hostTurn_step {s : State} {width : Width} {off : Nat} {op : BusOp} {rest : List Event}
    (h : s.HostTurn width off op rest) (hoff : off < 0x200) :
    step s = .next (windowAccess width off op { s with schedule := rest }) := by
  obtain ⟨hp, hs⟩ := h
  simp [step, advance, runEvent, hs, hostAccess, hp, windowOffset_base off hoff]

/-- Exactly the accesses that R48 admits find a word (R45). -/
theorem windowWord_isSome (off : Nat) (hoff : off < 0x200) :
    (windowWord off).isSome = busAccessWf 4 off := by
  have h : ∀ off : Fin 0x200, (windowWord off.val).isSome = busAccessWf 4 off.val := by
    set_option maxRecDepth 20000 in decide
  exact h ⟨off, hoff⟩

/-- Nothing is mapped at 0x1C0 or above (R45). -/
theorem windowWord_none (off : Nat) (h : 0x1C0 ≤ off) : windowWord off = none := by
  simp only [windowWord]
  split
  · rfl
  · rw [dif_neg (by omega), dif_neg (by omega), dif_neg (by omega), dif_neg (by omega), dif_neg (by omega),
      dif_neg (by omega), dif_neg (by omega)]
    simp only [scalarWord]
    split <;> first | omega | rfl

theorem windowWord_lt {off : Nat} {r : WindowWord} (h : windowWord off = some r) : off < 0x200 := by
  by_contra hn
  rw [windowWord_none off (by omega)] at h
  cases h

theorem windowAccess_read {off : Nat} {r : WindowWord} (s : State) (h : windowWord off = some r) :
    windowAccess .word off .read s = respond true (some (readWord s r)) s := by
  simp [windowAccess, h]

theorem windowAccess_write {off : Nat} {r : WindowWord} (s : State) (v : Word) (h : windowWord off = some r) :
    windowAccess .word off (.write v) s = respond true none (writeWord r v s) := by
  simp [windowAccess, h]

/-- An access that R48 does not admit only gets the ERROR response (R49). -/
theorem windowAccess_error (width : Width) (off : Nat) (op : BusOp) (s : State) (hoff : off < 0x200)
    (h : busAccessWf width.bytes off = false) :
    windowAccess width off op s
      = respond false (match op with | .read => some 0#32 | .write _ => none) s := by
  cases width with
  | byte => cases op <;> rfl
  | half => cases op <;> rfl
  | word =>
    have hn : windowWord off = none := by
      have := windowWord_isSome off hoff
      rw [show busAccessWf 4 off = false from h] at this
      simpa using this
    cases op <;> simp [windowAccess, hn]

/-- An access that R48 admits finds a word, and is 32 bits wide. -/
theorem windowAccess_ok (width : Width) (off : Nat) (hoff : off < 0x200) (h : busAccessWf width.bytes off = true) :
    width = .word ∧ ∃ r, windowWord off = some r := by
  cases width with
  | byte => simp [busAccessWf, Width.bytes] at h
  | half => simp [busAccessWf, Width.bytes] at h
  | word =>
    refine ⟨rfl, Option.isSome_iff_exists.mp ?_⟩
    rw [windowWord_isSome off hoff]; exact h

/-! ### A write, case by case -/

/-- Everything a write to a mapped word can do (R51). -/
theorem writeWord_cases (r : WindowWord) (v : Word) (s : State) :
    (r.access = .wo ∧ s.status.busy = false ∧ writeWord r v s = issue v s)
    ∨ ((r.access = .wo ∨ r.access = .rw ∨ r.access = .rwl) ∧ s.status.busy = true ∧ writeWord r v s = dropBusy s)
    ∨ (r.access = .w1c ∧ writeWord r v s = { s with status := s.status.writeOneToClear v })
    ∨ (r.access = .ctrl ∧ writeWord r v s = { s with ie := v.getLsbD 0 })
    ∨ (r.access = .ro ∧ writeWord r v s = s)
    ∨ (r.access = .rwl ∧ s.status.busy = false ∧ s.status.locked = true ∧ writeWord r v s = dropLocked s)
    ∨ ((r.access = .rw ∨ r.access = .rwl ∧ s.status.locked = false) ∧ s.status.busy = false
        ∧ writeWord r v s = storeWord r v s) := by
  cases hb : s.status.busy <;> cases hl : s.status.locked <;> cases ha : r.access <;>
    simp [writeWord, ha, hb, hl]

/-! ### Commands -/

/-- Every command answers a next state. -/
theorem exec_answers (i : Instr) (s : State) : ∃ t, exec i s = .next t := by
  cases i <;> exact ⟨_, rfl⟩

/-- R112, as the claims' formula. -/
theorem clockOk_iff (s : State) : clockOk s = true ↔ SampleAccepted s (nextTime s) := by
  cases h : s.tlastValid <;> simp [clockOk, SampleAccepted, h]

theorem execB32enc_cases (s : State) :
    (40 < s.inLen.toNat ∧ exec .b32enc s = .next (raiseError .invalidLength s))
    ∨ (s.inLen.toNat ≤ 40 ∧ exec .b32enc s = .next (complete false (writeOut (base32 (inputBytes s)) s))) := by
  by_cases h : 40 < s.inLen.toNat
  · exact .inl ⟨h, by simp [exec, execB32enc, Config.inMax, h]⟩
  · exact .inr ⟨by omega, by simp [exec, execB32enc, Config.inMax, h]⟩

theorem execLock_cases (s : State) :
    (s.status.locked = true ∧ exec .lock s = .next (raiseError .alreadyConstructed s))
    ∨ (s.status.locked = false ∧ s.stepSize = 0#32 ∧ exec .lock s = .next (raiseError .invalidConfig s))
    ∨ (s.status.locked = false ∧ s.stepSize ≠ 0#32 ∧ 64 < s.secretLen.toNat
        ∧ exec .lock s = .next (raiseError .invalidLength s))
    ∨ (s.status.locked = false ∧ s.stepSize ≠ 0#32 ∧ s.secretLen.toNat ≤ 64
        ∧ exec .lock s = .next (complete false (setLocked s))) := by
  cases hl : s.status.locked
  · by_cases hz : s.stepSize = 0#32
    · simp [exec, execLock, hl, hz]
    · by_cases hn : 64 < s.secretLen.toNat
      · simp [exec, execLock, hl, hz, hn, Config.secretMax]
      · simp [exec, execLock, hl, hz, hn, Config.secretMax]; omega
  · simp [exec, execLock, hl]

theorem execGensec_cases (s : State) :
    (s.status.locked = true ∧ exec .gensec s = .next (raiseError .alreadyConstructed s))
    ∨ (s.status.locked = false ∧ (s.stepSize = 0#32 ∨ 40 < s.randLen.toNat)
        ∧ exec .gensec s = .next (raiseError .invalidConfig s))
    ∨ (s.status.locked = false ∧ s.stepSize ≠ 0#32 ∧ s.randLen.toNat ≤ 40 ∧ s.randLen ≠ 0#6
        ∧ (nextEntropy s).ok = false
        ∧ exec .gensec s = .next (raiseError .randomSourceExhausted (afterEntropy s.randLen.toNat s)))
    ∨ (s.status.locked = false ∧ s.stepSize ≠ 0#32 ∧ s.randLen.toNat ≤ 40 ∧ s.randLen ≠ 0#6
        ∧ (nextEntropy s).ok = true
        ∧ exec .gensec s = .next (complete false (setLocked (writeSecret
            (base32 ((nextEntropy s).bytes.toList.take s.randLen.toNat)) (afterEntropy s.randLen.toNat s)))))
    ∨ (s.status.locked = false ∧ s.stepSize ≠ 0#32 ∧ s.randLen = 0#6
        ∧ exec .gensec s = .next (complete false (setLocked (writeSecret (base32 []) s)))) := by
  cases hl : s.status.locked
  · by_cases hz : s.stepSize = 0#32
    · simp [exec, execGensec, hl, hz]
    · by_cases hn : 40 < s.randLen.toNat
      · simp [exec, execGensec, hl, hz, hn, Config.randMax]
      · by_cases h0 : s.randLen = 0#6
        · simp [exec, execGensec, hl, hz, h0, Config.randMax, entropyBytes, afterEntropy]
        · have h0' : s.randLen.toNat ≠ 0 := by
            intro h; exact h0 (BitVec.eq_of_toNat_eq (by simpa using h))
          cases ho : (nextEntropy s).ok
          · simp [exec, execGensec, hl, hz, hn, h0, h0', Config.randMax, entropyBytes, ho]; omega
          · simp [exec, execGensec, hl, hz, hn, h0, h0', Config.randMax, entropyBytes, ho]; omega
  · simp [exec, execGensec, hl]

theorem execHotp_cases (s : State) :
    (s.status.locked = false ∧ exec .hotp s = .next (raiseError .notConstructed s))
    ∨ (s.status.locked = true ∧ s.ctrbLen ≠ 8#4 ∧ exec .hotp s = .next (raiseError .invalidCounterLength s))
    ∨ (s.status.locked = true ∧ s.ctrbLen = 8#4
        ∧ exec .hotp s = .next (complete false (writeCode (hotpOf (secretKey s) s.ctrb) s))) := by
  cases hl : s.status.locked
  · simp [exec, execHotp, hl]
  · by_cases hn : s.ctrbLen = 8#4 <;> simp [exec, execHotp, hl, hn]

theorem execTotp_cases (s : State) :
    (s.status.locked = false ∧ exec .totp s = .next (raiseError .notConstructed s))
    ∨ (s.status.locked = true ∧ ¬ SampleAccepted s (nextTime s)
        ∧ exec .totp s = .next (raiseError .clockUnavailable (drawTime s)))
    ∨ (s.status.locked = true ∧ SampleAccepted s (nextTime s)
        ∧ exec .totp s = .next (complete false (acceptTime (nextTime s).secs
            (writeStepUsed (curStep (nextTime s).secs s.stepSize)
              (writeCode (hotpOf (secretKey s) (pack64 (curStep (nextTime s).secs s.stepSize)))
                (drawTime s)))))) := by
  cases hl : s.status.locked
  · simp [exec, execTotp, hl]
  · by_cases hc : clockOk s = true
    · simp [exec, execTotp, hl, hc, (clockOk_iff s).mp hc]
    · simp [exec, execTotp, hl, hc, mt (clockOk_iff s).mpr hc]

theorem execTotpS_cases (s : State) :
    (s.status.locked = false ∧ exec .totpS s = .next (raiseError .notConstructed s))
    ∨ (s.status.locked = true
        ∧ exec .totpS s = .next (complete false (writeStepUsed s.stepReg
            (writeCode (hotpOf (secretKey s) (pack64 s.stepReg)) s)))) := by
  cases hl : s.status.locked <;> simp [exec, execTotpS, hl]

theorem execVtotp_cases (s : State) :
    (s.status.locked = false ∧ exec .vtotp s = .next (raiseError .notConstructed s))
    ∨ (s.status.locked = true ∧ ¬ SampleAccepted s (nextTime s)
        ∧ exec .vtotp s = .next (raiseError .clockUnavailable (drawTime s)))
    ∨ (s.status.locked = true ∧ SampleAccepted s (nextTime s)
        ∧ exec .vtotp s = .next (complete (windowMatch s (curStep (nextTime s).secs s.stepSize))
            (acceptTime (nextTime s).secs
              (writeStepUsed (curStep (nextTime s).secs s.stepSize) (drawTime s))))) := by
  cases hl : s.status.locked
  · simp [exec, execVtotp, hl]
  · by_cases hc : clockOk s = true
    · simp [exec, execVtotp, hl, hc, (clockOk_iff s).mp hc]
    · simp [exec, execVtotp, hl, hc, mt (clockOk_iff s).mpr hc]

theorem execVhotp_cases (s : State) :
    (s.status.locked = false ∧ exec .vhotp s = .next (raiseError .notConstructed s))
    ∨ (s.status.locked = true ∧ s.ctrbLen ≠ 8#4 ∧ exec .vhotp s = .next (raiseError .invalidCounterLength s))
    ∨ (s.status.locked = true ∧ s.ctrbLen = 8#4
        ∧ exec .vhotp s = .next (complete (codeEq s (hotpOf (secretKey s) s.ctrb).digits) s)) := by
  cases hl : s.status.locked
  · simp [exec, execVhotp, hl]
  · by_cases hn : s.ctrbLen = 8#4 <;> simp [exec, execVhotp, hl, hn]

theorem execTrunc_eq (s : State) : exec .trunc s = .next (complete false (writeCode (truncDigest s.digest) s)) := rfl

theorem execPack64_eq (s : State) :
    exec .pack64 s = .next (complete false (writeCounterBytes (pack64 s.counter) s)) := rfl

/-! ### A whole step -/

/-- Everything a host access can do: only the answer changes, or a write to a word of the window happens and is answered. -/
theorem hostAccess_cases (a : BusAccess) (s : State) :
    (∃ x, hostAccess a s = { s with lastResp := x })
    ∨ (s.resetPin = false ∧ ∃ r v x, a.op = .write v ∧ hostAccess a s = { writeWord r v s with lastResp := x }) := by
  simp only [hostAccess]
  split
  · exact .inl ⟨none, rfl⟩
  · rename_i hp
    split
    · exact .inl ⟨none, rfl⟩
    · simp only [windowAccess]
      split
      · exact .inl ⟨_, rfl⟩
      · rename_i h
        exact .inr ⟨by simpa using hp, _, _, _, h, rfl⟩
      · exact .inl ⟨_, rfl⟩
      · exact .inl ⟨_, rfl⟩

/-- Everything an engine event can do: nothing, ILLEGAL_CMD, or the completion of the pending command. -/
theorem engineStep_cases (s : State) :
    ((s.resetPin = true ∨ s.status.busy = false) ∧ engineStep s = .next s)
    ∨ (s.resetPin = false ∧ s.status.busy = true ∧ engineStep s = .next (raiseError .illegalCmd s))
    ∨ (s.resetPin = false ∧ s.status.busy = true ∧ ∃ i, engineStep s = exec i s) := by
  cases hp : s.resetPin
  · cases hb : s.status.busy
    · exact .inl ⟨.inr rfl, by simp [engineStep, hp, hb]⟩
    · rw [engineStep_of_busy hp hb]
      cases decode s.pend with
      | illegal w => exact .inr (.inl ⟨rfl, rfl, rfl⟩)
      | instr i => exact .inr (.inr ⟨rfl, rfl, i, rfl⟩)
  · exact .inl ⟨.inl rfl, by simp [engineStep, hp]⟩

/-- Everything a step can do, from the state with the schedule's first event taken: an engine event, a host access, or a
reset event. -/
theorem step_cases (s : State) :
    (step s = engineStep s.popped)
    ∨ (∃ a, .access a ∈ s.schedule ∧ step s = .next (hostAccess a s.popped))
    ∨ (.resetAssert ∈ s.schedule ∧ step s = .next (assertReset s.popped))
    ∨ (step s = .next (releaseReset s.popped)) := by
  cases hs : s.schedule with
  | nil => exact .inl (by rw [popped_of_nil hs]; simp only [step, advance, hs])
  | cons e rest =>
    rw [popped_of_cons hs]
    cases e with
    | access a => exact .inr (.inl ⟨a, by simp, by simp only [step, advance, hs, runEvent]⟩)
    | engine => exact .inl (by simp only [step, advance, hs, runEvent])
    | resetAssert => exact .inr (.inr (.inl ⟨by simp, by simp only [step, advance, hs, runEvent]⟩))
    | resetRelease => exact .inr (.inr (.inr (by simp only [step, advance, hs, runEvent])))

end Sys2Proof.Machine
end

