-- ==== Sys2Proof/Laws/PerInstr.lean ====
section
/-! SUPPORT. Per-instruction families: statements about a command as syntax. `WordRoundTrip`: a command's word decodes to
it, its fields are legal by R60, and it is the word of spec/opcode_table.json. -/
namespace Sys2Proof.Laws.WordRoundTrip

/-- The command's word (30_encoding.md R59; spec/opcode_table.json "match"). -/
def tableWord : Instr → Nat
  | .b32enc => 0x00000001
  | .lock => 0x00000002
  | .gensec => 0x00000003
  | .trunc => 0x00000004
  | .hotp => 0x00000005
  | .pack64 => 0x00000006
  | .totp => 0x00000007
  | .totpS => 0x00000017
  | .vtotp => 0x00000008
  | .vhotp => 0x00000009

/-- The encoder gives the table's word, the decoder reads the command from it, and R60 calls it legal. -/
def Statement (i : Instr) : Prop :=
  (encode i).toNat = tableWord i ∧ decode (encode i) = .instr i ∧ (cmdFields (encode i)).wf = true
    ∧ decodeTableWord 32 (tableWord i) = some i

theorem b32enc : Statement .b32enc := by unfold Statement; decide
theorem lock : Statement .lock := by unfold Statement; decide
theorem gensec : Statement .gensec := by unfold Statement; decide
theorem trunc : Statement .trunc := by unfold Statement; decide
theorem hotp : Statement .hotp := by unfold Statement; decide
theorem pack64 : Statement .pack64 := by unfold Statement; decide
theorem totp : Statement .totp := by unfold Statement; decide
theorem totpS : Statement .totpS := by unfold Statement; decide
theorem vtotp : Statement .vtotp := by unfold Statement; decide
theorem vhotp : Statement .vhotp := by unfold Statement; decide

end Sys2Proof.Laws.WordRoundTrip
end

