-- ==== Sys2Proof/Laws/Window.lean ====
section
/-! SUPPORT. The words of the register window: STATUS as a number, and what a write that takes effect does to what each word
reads and to the registers that have no word of their own. -/
namespace Sys2Proof.Machine

/-- STATUS as the host reads it, as a number (R19). -/
theorem status_word_toNat (f : Status) : f.word.toNat = f.busy.toNat + f.done.toNat * 2 ^ 1 + f.matched.toNat * 2 ^ 2
    + f.locked.toNat * 2 ^ 3 + f.err.code.toNat * 2 ^ 4 + f.wbusy.toNat * 2 ^ 8 + f.wlock.toNat * 2 ^ 9 := by
  have h : ∀ e : BitVec 4, ∀ b d m l wb wl : Bool,
      (0#22 ++ BitVec.ofBool wl ++ BitVec.ofBool wb ++ e ++ BitVec.ofBool l ++ BitVec.ofBool m ++ BitVec.ofBool d
        ++ BitVec.ofBool b).toNat = b.toNat + d.toNat * 2 ^ 1 + m.toNat * 2 ^ 2 + l.toNat * 2 ^ 3 + e.toNat * 2 ^ 4
          + wb.toNat * 2 ^ 8 + wl.toNat * 2 ^ 9 := by decide
  exact h _ _ _ _ _ _ _

/-! ### Access classes -/

theorem access_of_hostWritable {r : WindowWord} (h : r.HostWritable) : r.access = .rw := by
  rcases h with h | h | h | h | h | h | h | ⟨_, h⟩ | ⟨_, h⟩ | ⟨_, h⟩ | ⟨_, h⟩ <;> subst h <;> rfl

theorem access_of_lockProtected {r : WindowWord} (h : r.LockProtected) : r.access = .rwl := by
  rcases h with h | h | h | h | ⟨_, h⟩ <;> subst h <;> rfl

theorem access_of_readOnly {r : WindowWord} (h : r.ReadOnly) : r.access = .ro := by
  rcases h with h | h | h | h | h | ⟨_, h⟩ | ⟨_, h⟩ <;> subst h <;> rfl

/-! ### Halves, masks, buffer words -/

theorem append_toNat (a b : Word) : (a ++ b).toNat = a.toNat * 2 ^ 32 + b.toNat := by
  rw [BitVec.toNat_append, ← Nat.shiftLeft_add_eq_or_of_lt b.isLt, Nat.shiftLeft_eq]

/-- A 64-bit register built from two words has them as its halves (R47). -/
theorem halves_append (a b : Word) : lowHalf (a ++ b) = b ∧ highHalf (a ++ b) = a := by
  have ha := a.isLt
  have hb := b.isLt
  constructor <;> apply BitVec.eq_of_toNat_eq <;>
    simp only [lowHalf, highHalf, BitVec.extractLsb'_toNat, append_toNat, Nat.shiftRight_eq_div_pow] <;> omega

theorem mask_all (v : Word) : v &&& 0xFFFFFFFF#32 = v := by
  apply BitVec.eq_of_toNat_eq
  rw [BitVec.toNat_and, show (0xFFFFFFFF#32).toNat = 2 ^ 32 - 1 by decide, Nat.and_two_pow_sub_one_eq_mod,
    Nat.mod_eq_of_lt v.isLt]

/-- Narrowing a word to a field and reading it back is masking (R51 case 7). -/
theorem setWidth_eq_mask (n m : Nat) (v : Word) (hn : n ≤ 32) (hm : m = 2 ^ n - 1) :
    (v.setWidth n).setWidth 32 = v &&& BitVec.ofNat 32 m := by
  apply BitVec.eq_of_toNat_eq
  have hp : 2 ^ n ≤ 2 ^ 32 := Nat.pow_le_pow_right (by decide) hn
  have h1 := Nat.two_pow_pos n
  subst hm
  simp only [BitVec.toNat_setWidth, BitVec.toNat_and, BitVec.toNat_ofNat]
  rw [Nat.mod_eq_of_lt (a := 2 ^ n - 1) (by omega), Nat.and_two_pow_sub_one_eq_mod]
  exact Nat.mod_eq_of_lt (Nat.lt_of_lt_of_le (Nat.mod_lt _ h1) hp)

theorem bufWord_setBufWord_same {m : Nat} (b : Vector Byte (4 * m)) (j : Fin m) (v : Word) :
    bufWord (setBufWord b j v) j = v := by
  apply BitVec.eq_of_toNat_eq
  have h := be32_toNat (setBufWord b j v)[4 * j.val + 3] (setBufWord b j v)[4 * j.val + 2]
    (setBufWord b j v)[4 * j.val + 1] (setBufWord b j v)[4 * j.val]
  simp only [be32] at h
  simp only [bufWord, h]
  simp only [setBufWord, Vector.getElem_ofFn]
  rw [if_pos (by omega), if_pos (by omega), if_pos (by omega), if_pos (by omega)]
  simp [laneOf, Nat.shiftRight_eq_div_pow, show (4 * j.val + 3) % 4 = 3 by omega,
    show (4 * j.val + 2) % 4 = 2 by omega, show (4 * j.val + 1) % 4 = 1 by omega]
  omega

theorem bufWord_setBufWord_other {m : Nat} (b : Vector Byte (4 * m)) (j j' : Fin m) (v : Word) (h : j' ≠ j) :
    bufWord (setBufWord b j v) j' = bufWord b j' := by
  have h' : j'.val ≠ j.val := fun e => h (Fin.ext e)
  simp only [bufWord, setBufWord, Vector.getElem_ofFn]
  rw [if_neg (by omega), if_neg (by omega), if_neg (by omega), if_neg (by omega)]
  rfl

/-! ### `storeWord` -/

/-- The written word then reads the value masked to its field bits (R51 case 7). -/
theorem readWord_storeWord_same (r : WindowWord) (v : Word) (s : State) (h : r.access = .rw ∨ r.access = .rwl) :
    readWord (storeWord r v s) r = v &&& fieldMask r := by
  cases r <;> simp [WindowWord.access] at h <;>
    simp only [readWord, storeWord, fieldMask, mask_all, halves_append, bufWord_setBufWord_same]
  all_goals exact setWidth_eq_mask _ _ _ (by decide) (by decide)

/-- Every other word reads as before. -/
theorem readWord_storeWord_other (r r' : WindowWord) (v : Word) (s : State) (h : r' ≠ r) :
    readWord (storeWord r v s) r' = readWord s r' := by
  have hb {m : Nat} (b : Vector Byte (4 * m)) (j j' : Fin m) (hj : j' ≠ j) :
      bufWord (setBufWord b j v) j' = bufWord b j' := bufWord_setBufWord_other b j j' v hj
  cases r with
  | counterLo | counterHi | stepLo | stepHi =>
    cases r' <;> simp only [readWord, storeWord, halves_append]
    exact absurd rfl h
  | codeIn j | ctrb j | digest j | secret j | inBuf j =>
    cases r' <;> simp only [readWord, storeWord]
    exact hb _ _ _ fun e => h (by rw [e])
  | stepSize | tol | randLen | secretLen | inLen | ctrbLen | codeInLen =>
    cases r' <;> simp only [readWord, storeWord]
    exact absurd rfl h
  | _ => rfl

/-- What a write that takes effect never changes: STATUS, CTRL, the results, the hidden registers, and the outside. -/
theorem storeWord_frame (r : WindowWord) (v : Word) (s : State) :
    (storeWord r v s).status = s.status ∧ (storeWord r v s).ie = s.ie
      ∧ (storeWord r v s).outLen = s.outLen ∧ (storeWord r v s).outBuf = s.outBuf
      ∧ (storeWord r v s).stepUsed = s.stepUsed ∧ (storeWord r v s).truncVal = s.truncVal
      ∧ (storeWord r v s).codeVal = s.codeVal ∧ (storeWord r v s).code = s.code
      ∧ (storeWord r v s).pend = s.pend ∧ (storeWord r v s).tlast = s.tlast
      ∧ (storeWord r v s).tlastValid = s.tlastValid ∧ (storeWord r v s).resetPin = s.resetPin
      ∧ (storeWord r v s).schedule = s.schedule ∧ (storeWord r v s).lastResp = s.lastResp
      ∧ (storeWord r v s).timePort = s.timePort ∧ (storeWord r v s).timeDraws = s.timeDraws
      ∧ (storeWord r v s).entropyPort = s.entropyPort ∧ (storeWord r v s).entropyDraws = s.entropyDraws := by
  cases r <;> simp only [storeWord, and_self]

/-- A write to a word that is not lock protected leaves the configuration that LOCK freezes (R42). -/
theorem storeWord_config (r : WindowWord) (v : Word) (s : State) (h : r.access ≠ .rwl) :
    (storeWord r v s).stepSize = s.stepSize ∧ (storeWord r v s).tol = s.tol ∧ (storeWord r v s).randLen = s.randLen
      ∧ (storeWord r v s).secretLen = s.secretLen ∧ (storeWord r v s).secret = s.secret := by
  cases r <;> first | exact absurd rfl h | simp only [storeWord, and_self]

end Sys2Proof.Machine
end

