-- ==== Sys2Proof/Tests/Slice0.lean ====
section
/-! SUPPORT. Tests of one step each, with expected values from 95_test_vectors.md and the rules they cite; and, for every
statement that has hypotheses, witnesses that meet them. -/
namespace Sys2Proof.Tests
open Sys2Proof.Machine

/-! ### Helpers: small states -/

def bytes (l : List Nat) : List Byte := l.map (BitVec.ofNat 8)

/-- The state after the command, when it answers a next state. -/
def after (i : Instr) (s : State) : State :=
  match exec i s with
  | .next t => t
  | .fault _ => s
  | .refused _ => s

/-- `"12345678901234567890"` (95_test_vectors.md). -/
def s20 : List Byte := bytes [49, 50, 51, 52, 53, 54, 55, 56, 57, 48, 49, 50, 51, 52, 53, 54, 55, 56, 57, 48]

/-- "Locked with S20" (95_test_vectors.md). -/
def locked : State :=
  { State.reset with
    secret := fillBuf 64 s20, secretLen := 20#7, status := { Status.reset with locked := true, done := true } }

/-- A host access is next. -/
def host (width : Width) (off : Nat) (op : BusOp) (rest : List Event) (s : State) : State :=
  { s with schedule := .access ⟨width, Config.otpbBase + off, op⟩ :: rest }

/-- The command word `w` was issued. -/
def pending (w : Word) (s : State) : State := { s with pend := w, status := { s.status with busy := true, done := false } }

/-- The time port answers `(valid, secs)` next. -/
def timed (valid : Bool) (secs : BitVec 64) (s : State) : State := { s with timePort := [⟨valid, secs⟩] }

/-- The entropy port answers `ok` with these bytes next. -/
def entropy (ok : Bool) (l : List Byte) (s : State) : State := { s with entropyPort := [⟨ok, fillBuf 40 l⟩] }

/-- RAND_LEN holds `n`. -/
def randLen (n : BitVec 6) (s : State) : State := { s with randLen := n }

/-- The presented code, six bytes. -/
def presented (l : List Byte) (s : State) : State := { s with codeIn := fillBuf 8 l, codeInLen := 6#8 }

theorem host_turn (width : Width) (off : Nat) (op : BusOp) (rest : List Event) (s : State) (h : s.resetPin = false) :
    (host width off op rest s).HostTurn width off op rest := And.intro h rfl

theorem engine_turn (s : State) (hp : s.resetPin = false) (hb : s.status.busy = true) (hs : s.schedule = []) :
    s.EngineTurn := And.intro hp (And.intro hb (.inl hs))

theorem engine_turn_scheduled (s : State) (hp : s.resetPin = false) (hb : s.status.busy = true) :
    ({ s with schedule := [.engine] } : State).EngineTurn := And.intro hp (And.intro hb (.inr ⟨[], rfl⟩))

theorem locked_configOk : locked.status.locked = true ∧ locked.ConfigOk :=
  ⟨rfl, fun _ => ⟨by decide, by decide⟩⟩

/-! ### WellFormed: each check refuses an ill-formed term (R60, R48) -/

theorem test_wf_refuses_reserved_op : (⟨0#4, false, 0#27⟩ : CmdFields).wf = false ∧ (⟨10#4, false, 0#27⟩ : CmdFields).wf = false
    ∧ (⟨15#4, false, 0#27⟩ : CmdFields).opAssigned = false := by decide
theorem test_wf_refuses_reserved_bits : (⟨1#4, false, 1#27⟩ : CmdFields).wf = false
    ∧ (⟨7#4, true, 0x4000000#27⟩ : CmdFields).resClear = false := by decide
theorem test_wf_refuses_stray_s : (⟨8#4, true, 0#27⟩ : CmdFields).wf = false
    ∧ (⟨1#4, true, 0#27⟩ : CmdFields).sAllowed = false ∧ (⟨7#4, true, 0#27⟩ : CmdFields).wf = true := by decide
theorem test_bus_wf_refuses : busAccessWf 1 0x000 = false ∧ busAccessWf 2 0x004 = false ∧ busAccessWf 4 0x002 = false
    ∧ busAccessWf 4 0x04C = false ∧ busAccessWf 4 0x068 = false ∧ busAccessWf 4 0x1FC = false
    ∧ busAccessWf 4 0x048 = true ∧ busAccessWf 4 0x1BC = true := by decide

/-! ### Decoding: the words of R59, bit by bit as R57 lays them out (bits 31:5 reserved, 4 S, 3:0 OP) -/

theorem test_decode_b32enc : decode 0b000000000000000000000000000_0_0001#32 = .instr .b32enc := by decide
theorem test_decode_lock : decode 0b000000000000000000000000000_0_0010#32 = .instr .lock := by decide
theorem test_decode_gensec : decode 0b000000000000000000000000000_0_0011#32 = .instr .gensec := by decide
theorem test_decode_trunc : decode 0b000000000000000000000000000_0_0100#32 = .instr .trunc := by decide
theorem test_decode_hotp : decode 0b000000000000000000000000000_0_0101#32 = .instr .hotp := by decide
theorem test_decode_pack64 : decode 0b000000000000000000000000000_0_0110#32 = .instr .pack64 := by decide
theorem test_decode_totp : decode 0b000000000000000000000000000_0_0111#32 = .instr .totp := by decide
theorem test_decode_totpS : decode 0b000000000000000000000000000_1_0111#32 = .instr .totpS := by decide
theorem test_decode_vtotp : decode 0b000000000000000000000000000_0_1000#32 = .instr .vtotp := by decide
theorem test_decode_vhotp : decode 0b000000000000000000000000000_0_1001#32 = .instr .vhotp := by decide
theorem test_decode_illegal : decode 0b000000000000000000000000000_0_0000#32 = .illegal .reservedOp
    ∧ decode 0b000000000000000000000000000_0_1010#32 = .illegal .reservedOp
    ∧ decode 0b000000000000000000000000000_1_1000#32 = .illegal .strayS
    ∧ decode 0b000000000000000000000000001_0_0111#32 = .illegal .reservedBits
    ∧ decode 0b100000000000000000000000000_0_0111#32 = .illegal .reservedBits := by decide

/-! ### Commands: 95_test_vectors.md sections 1 and 2 -/

/-- Section 1.1, vector 7: `MZXW6YTBOI======`. -/
theorem test_b32enc_foobar :
    let t := after .b32enc { State.reset with inBuf := fillBuf 40 (bytes [0x66, 0x6f, 0x6f, 0x62, 0x61, 0x72]), inLen := 6#6 }
    t.outLen = 16#7 ∧ t.outBuf.toList.take 17 = bytes [0x4D, 0x5A, 0x58, 0x57, 0x36, 0x59, 0x54, 0x42, 0x4F, 0x49,
      0x3D, 0x3D, 0x3D, 0x3D, 0x3D, 0x3D, 0] ∧ t.status.word = 0x002#32 := by decide
/-- Section 2.1: IN_LEN = 41 is INVALID_LENGTH. -/
theorem test_b32enc_too_long :
    let t := after .b32enc { State.reset with inLen := 41#6, outLen := 8#7 }
    t.status.word = 0x082#32 ∧ t.outLen = 8#7 := by decide

/-- Section 2.2: STATUS 0x0A; SECRET_LEN = 65 is INVALID_LENGTH. -/
theorem test_lock : (after .lock { State.reset with secretLen := 20#7 }).status.word = 0x00A#32
    ∧ (after .lock { State.reset with secretLen := 65#7 }).status.word = 0x082#32 := by decide
/-- Section 2.2: ERR 7 comes before ERR 8, and ERR 6 before all. -/
theorem test_lock_order : (after .lock { State.reset with secretLen := 65#7, stepSize := 0#32 }).status.word = 0x072#32
    ∧ (after .lock { locked with secretLen := 65#7, stepSize := 0#32 }).status.word = 0x06A#32 := by decide

/-- Section 2.2: the draw 00 gives `AA======`. -/
theorem test_gensec_one_byte :
    let t := after .gensec (randLen 1#6 (entropy true [0#8] State.reset))
    t.secretLen = 8#7 ∧ t.secret.toList.take 9 = bytes [0x41, 0x41, 0x3D, 0x3D, 0x3D, 0x3D, 0x3D, 0x3D, 0]
      ∧ t.status.word = 0x00A#32 ∧ t.entropyDraws = 1 := by decide
/-- Section 2.2: a failed draw, and RAND_LEN = 41 with none. -/
theorem test_gensec_errors :
    (after .gensec (entropy false [] State.reset)).status.word = 0x042#32
    ∧ (after .gensec (randLen 41#6 State.reset)).status.word = 0x072#32
    ∧ (after .gensec (randLen 41#6 State.reset)).entropyDraws = 0 := by decide

/-- Section 2.3, last row. -/
theorem test_trunc_rfc_digest :
    let t := after .trunc { State.reset with digest := fillBuf 20 (bytes [0x1f, 0x86, 0x98, 0x69, 0x0e, 0x02, 0xca,
      0x16, 0x61, 0x85, 0x50, 0xef, 0x7f, 0x19, 0xda, 0x8e, 0x94, 0x5b, 0x55, 0x5a]) }
    t.truncVal = 1357872921#31 ∧ t.codeVal = 872921#20 ∧ readWord t (.code 0) = 0x39323738#32
      ∧ readWord t (.code 1) = 0x00003132#32 := by decide
/-- Section 2.3: offset 15, where byte 19 is not in the window, and a leading zero byte. -/
theorem test_trunc_offset_15 :
    let t := after .trunc { State.reset with digest := fillBuf 20 (bytes [0, 0, 0, 0, 0, 0, 0, 0, 0, 0, 0, 0, 0, 0, 0, 0,
      0x12, 0x34, 0x56, 0x0f]) }
    t.truncVal = 1193046#31 ∧ t.codeVal = 193046#20 := by decide

/-- The state of section 1.2's row for counter 1. -/
def counter1 : State := { locked with ctrb := pack64 1#64, ctrbLen := 8#4 }

/-- Section 1.2, counter 1, given its digest (HMAC-SHA1 is a parameter, R6): CODE `287082`. -/
theorem test_hotp_counter_1 (h : Config.hmacSha1 (secretKey counter1) counter1.ctrb = fillBuf 20 (bytes [0x75, 0xa4, 0x8a,
      0x19, 0xd4, 0xcb, 0xe1, 0x00, 0x64, 0x4e, 0x8a, 0xc1, 0x39, 0x7e, 0xea, 0x74, 0x7a, 0x2d, 0x33, 0xab])) :
    exec .hotp counter1 = .next (complete false (writeCode
      ⟨1094287082#31, 287082#20, Vector.ofFn fun k => [50#8, 56#8, 55#8, 48#8, 56#8, 50#8][k]⟩ counter1)) := by
  rcases execHotp_cases counter1 with ⟨g, _⟩ | ⟨_, g, _⟩ | ⟨_, _, e⟩
  · cases g
  · exact absurd rfl g
  · rw [e, hotpOf, h]
    congr 3
/-- Section 2.4: the construction state is checked before the length. -/
theorem test_hotp_errors : (after .hotp { State.reset with ctrbLen := 7#4 }).status.word = 0x052#32
    ∧ (after .hotp { locked with ctrbLen := 9#4 }).status.word = 0x02A#32 := by decide

/-- Section 2.5. -/
theorem test_pack64 :
    let t := after .pack64 { State.reset with counter := 0x0102030405060708#64 }
    readWord t (.ctrb 0) = 0x04030201#32 ∧ readWord t (.ctrb 1) = 0x08070605#32 ∧ t.ctrbLen = 8#4
      ∧ t.status.word = 0x002#32 := by decide
theorem test_pack64_top_bit :
    readWord (after .pack64 { State.reset with counter := 0x8000000000000000#64 }) (.ctrb 0) = 0x00000080#32 := by decide

/-- Section 2.6: T = 1111111109 gives step 37037036. -/
theorem test_totp_step :
    let t := after .totp (timed true 1111111109#64 locked)
    t.stepUsed = 37037036#64 ∧ t.tlast = 1111111109#64 ∧ t.tlastValid = true ∧ t.status.word = 0x00A#32 := by decide
/-- Section 2.6: T = 99 after T = 100 is CLOCK_UNAVAILABLE; without construction ERR 5. -/
theorem test_totp_errors :
    (after .totp (timed true 99#64 { locked with tlast := 100#64, tlastValid := true })).status.word = 0x03A#32
    ∧ (after .totp (timed true 100#64 { locked with tlast := 100#64, tlastValid := true })).status.word = 0x00A#32
    ∧ (after .totp (timed false 0#64 State.reset)).status.word = 0x052#32 := by decide

/-- Section 2.6: STEP_USED records STEP; no sample is drawn. -/
theorem test_totpS_step :
    let t := after .totpS (timed false 0#64 { locked with stepReg := 0xFFFFFFFFFFFFFFFE#64 })
    readWord t .stepUsedHi = 0xFFFFFFFF#32 ∧ readWord t .stepUsedLo = 0xFFFFFFFE#32 ∧ t.tlastValid = false
      ∧ t.timeDraws = 0 ∧ t.status.word = 0x00A#32 := by decide
theorem test_totpS_not_constructed : (after .totpS State.reset).status.word = 0x052#32 := by decide

/-- Section 2.7: CODE_IN_LEN other than 6 never matches; invalid sample. -/
theorem test_vtotp_no_match :
    (after .vtotp (timed true 59#64 { locked with codeInLen := 0#8 })).status.word = 0x00A#32
    ∧ (after .vtotp (timed true 59#64 { locked with codeInLen := 0#8 })).stepUsed = 1#64
    ∧ (after .vtotp (timed false 59#64 locked)).status.word = 0x03A#32 := by decide
/-- Section 2.7: the candidate steps, clipped at 0 and at 2^64 - 1 (R96). -/
theorem test_window : stepWindow 1#64 1#4 = [0#64, 1#64, 2#64] ∧ stepWindow 1#64 2#4 = [0#64, 1#64, 2#64, 3#64]
    ∧ stepWindow 1#64 0#4 = [1#64] ∧ stepWindow 0#64 1#4 = [0#64, 1#64]
    ∧ stepWindow 0xFFFFFFFFFFFFFFFF#64 1#4 = [0xFFFFFFFFFFFFFFFE#64, 0xFFFFFFFFFFFFFFFF#64] := by decide

theorem test_vhotp_errors : (after .vhotp { State.reset with ctrbLen := 7#4 }).status.word = 0x052#32
    ∧ (after .vhotp { locked with ctrbLen := 7#4 }).status.word = 0x02A#32 := by decide
/-- `287082` presented for counter 1 (section 1.2). -/
def presented1 : State := presented (bytes [50, 56, 55, 48, 56, 50]) counter1

/-- Section 2.8's kind of case, given the digest of counter 1 (section 1.2): MATCH = 1. -/
theorem test_vhotp_matches (h : Config.hmacSha1 (secretKey presented1) presented1.ctrb = fillBuf 20 (bytes [0x75, 0xa4,
      0x8a, 0x19, 0xd4, 0xcb, 0xe1, 0x00, 0x64, 0x4e, 0x8a, 0xc1, 0x39, 0x7e, 0xea, 0x74, 0x7a, 0x2d, 0x33, 0xab])) :
    exec .vhotp presented1 = .next (complete true presented1) := by
  rcases execVhotp_cases presented1 with ⟨g, _⟩ | ⟨_, g, _⟩ | ⟨_, _, e⟩
  · cases g
  · exact absurd rfl g
  · rw [e, hotpOf, h]
    congr 2

/-! ### The window: section 2.9 -/

theorem test_bus_masks :
    readWord (windowAccess .word 0x010 (.write 0xFFFFFFFF#32) State.reset) .tol = 15#32
    ∧ readWord (windowAccess .word 0x01C (.write 0x0000FFFF#32) State.reset) .inLen = 63#32
    ∧ readWord (windowAccess .word 0x024 (.write 0x000001FF#32) State.reset) .codeInLen = 255#32
    ∧ (windowAccess .word 0x040 (.write 5#32) State.reset).status.word = 0#32 := by decide
theorem test_bus_errors :
    (windowAccess .word 0x04C .read State.reset).lastResp = some ⟨false, some 0#32⟩
    ∧ (windowAccess .word 0x002 .read State.reset).lastResp = some ⟨false, some 0#32⟩
    ∧ (windowAccess .half 0x004 .read State.reset).lastResp = some ⟨false, some 0#32⟩
    ∧ (windowAccess .word 0x1FC (.write 1#32) State.reset).lastResp = some ⟨false, none⟩
    ∧ (windowAccess .word 0x000 .read State.reset).lastResp = some ⟨true, some 0#32⟩ := by decide
theorem test_bus_busy :
    let s := windowAccess .word 0x000 (.write 5#32) (windowAccess .word 0x000 (.write 1#32) State.reset)
    s.pend = 1#32 ∧ s.status.word = 0x101#32
      ∧ (windowAccess .word 0x004 (.write 0xFFFFFFFF#32) s).status.word = 0x001#32
      ∧ (windowAccess .word 0x100 (.write 0#32) (pending 1#32 locked)).status.word = 0x109#32 := by decide
theorem test_bus_locked :
    let s := windowAccess .word 0x100 (.write 0#32) locked
    s.status.word = 0x20A#32 ∧ readWord s (.secret 0) = 0x34333231#32 := by decide
/-- Section 3, P1: IN words are little-endian lanes. -/
theorem test_bus_lanes :
    (windowAccess .word 0x140 (.write 0x626F6F66#32) State.reset).inBuf.toList.take 5
      = bytes [0x66, 0x6f, 0x6f, 0x62, 0] := by decide

theorem test_first_command_after_reset :
    step (State.reset.withFetchWord 32 0x00000006) = exec .pack64 (State.reset.withFetchWord 32 0x00000006) := rfl

/-! ### Witnesses: for every statement with hypotheses, states and operands that meet them, clause by clause -/

theorem witness_IllegalWordsRaiseIllegalCmd :
    (host .word 0x000 (.write 0xFFFFFFFF#32) [] State.reset).HostTurn .word 0x000 (.write 0xFFFFFFFF#32) []
    ∧ (host .word 0x000 (.write 0xFFFFFFFF#32) [] State.reset).status.busy = false
    ∧ (decode 0xFFFFFFFF#32).toOption = none
    ∧ (pending 0#32 locked).EngineTurn ∧ (decode (pending 0#32 locked).pend).toOption = none :=
  ⟨host_turn _ _ _ _ _ rfl, rfl, by decide, engine_turn _ rfl rfl rfl, by decide⟩

theorem witness_StepRunsDecodedCommand :
    ((pending 0x17#32 locked).EngineTurn ∧ decode (pending 0x17#32 locked).pend = .instr .totpS)
    ∧ (({ pending 0x9#32 locked with schedule := [.engine] } : State).EngineTurn ∧ decode 0x9#32 = .instr .vhotp)
    ∧ (State.reset.schedule = [] ∧ State.reset.status.busy = false)
    ∧ (({ pending 1#32 State.reset with schedule := [.engine], resetPin := true } : State).resetPin = true)
    ∧ (host .byte 0x1FF .read [] locked).schedule = [.access ⟨.byte, Config.otpbBase + 0x1FF, .read⟩]
    ∧ decodeTableWord 32 1 = some .b32enc ∧ decodeTableWord 32 0x17 = some .totpS :=
  ⟨⟨engine_turn _ rfl rfl rfl, by decide⟩, ⟨engine_turn_scheduled _ rfl rfl, by decide⟩, ⟨rfl, rfl⟩, rfl, rfl, by decide,
    by decide⟩

theorem witness_CmdWriteIssues :
    (host .word 0x000 (.write 9#32) [.engine] State.reset).HostTurn .word 0x000 (.write 9#32) [.engine]
    ∧ (host .word 0x000 (.write 9#32) [.engine] State.reset).status.busy = false
    ∧ (host .word 0x000 (.write 9#32) [] (pending 1#32 locked)).HostTurn .word 0x000 (.write 9#32) []
    ∧ (host .word 0x000 (.write 9#32) [] (pending 1#32 locked)).status.busy = true
    ∧ (host .word 0x000 (.write 0x20#32) [] State.reset).HostTurn .word 0x000 (.write 0x20#32) []
    ∧ (decode 0x20#32).toOption = none :=
  ⟨host_turn _ _ _ _ _ rfl, rfl, host_turn _ _ _ _ _ rfl, rfl, host_turn _ _ _ _ _ rfl, by decide⟩

/-- Each cause of R101 holds somewhere, at the least value over the limit; and each illegal word's turn comes. -/
theorem witness_ErrorCausesAndPriority :
    cause .hotp State.reset .notConstructed ∧ cause .lock locked .alreadyConstructed
    ∧ cause .gensec { State.reset with randLen := 41#6 } .invalidConfig
    ∧ ¬ cause .gensec { State.reset with randLen := 40#6 } .invalidConfig
    ∧ cause .lock { State.reset with stepSize := 0#32 } .invalidConfig
    ∧ cause .b32enc { State.reset with inLen := 41#6 } .invalidLength
    ∧ cause .lock { State.reset with secretLen := 65#7 } .invalidLength
    ∧ cause .hotp { locked with ctrbLen := 9#4 } .invalidCounterLength
    ∧ cause .totp (timed false 5#64 locked) .clockUnavailable
    ∧ cause .vtotp (timed true 4#64 { locked with tlast := 5#64, tlastValid := true }) .clockUnavailable
    ∧ cause .gensec (randLen 1#6 (entropy false [] State.reset)) .randomSourceExhausted
    ∧ (pending 0xA#32 locked).EngineTurn ∧ (decode (pending 0xA#32 locked).pend).toOption = none := by
  refine ⟨?_, ?_, ?_, ?_, ?_, ?_, ?_, ?_, ?_, ?_, ?_, engine_turn _ rfl rfl rfl, by decide⟩ <;>
    simp only [cause, SampleAccepted] <;> decide

theorem witness_ErrorChangesOnlyStatus :
    (∃ t, exec .hotp State.reset = .next t ∧ t.status.err ≠ .ok)
    ∧ (∃ t, exec .totp (timed false 0#64 locked) = .next t ∧ t.status.err ≠ .ok)
    ∧ (pending 0xF#32 locked).EngineTurn ∧ (decode (pending 0xF#32 locked).pend).toOption = none :=
  ⟨⟨_, rfl, by decide⟩, ⟨_, rfl, by decide⟩, engine_turn _ rfl rfl rfl, by decide⟩

theorem witness_B32encWritesBase32 :
    40 < ({ State.reset with inLen := 41#6 } : State).inLen.toNat
    ∧ ({ State.reset with inLen := 40#6 } : State).inLen.toNat ≤ 40 ∧ State.reset.inLen.toNat ≤ 40 := by decide

theorem witness_B32encPreservesTheNumber :
    ({ State.reset with inLen := 40#6 } : State).inLen.toNat ≤ 40 ∧ State.reset.inLen.toNat ≤ 40 := by decide

theorem witness_LockConstructs :
    locked.status.locked = true
    ∧ (let s : State := { State.reset with stepSize := 0#32 }; s.status.locked = false ∧ s.stepSize = 0#32)
    ∧ (let s : State := { State.reset with secretLen := 65#7 }
       s.status.locked = false ∧ s.stepSize ≠ 0#32 ∧ 64 < s.secretLen.toNat)
    ∧ (let s : State := { State.reset with secretLen := 64#7 }
       s.status.locked = false ∧ s.stepSize ≠ 0#32 ∧ s.secretLen.toNat ≤ 64) := by decide

theorem witness_GensecConstructs :
    locked.status.locked = true
    ∧ (randLen 41#6 State.reset).status.locked = false ∧ 40 < (randLen 41#6 State.reset).randLen.toNat
    ∧ ({ State.reset with stepSize := 0#32 } : State).stepSize = 0#32
    ∧ (let s := randLen 40#6 (entropy false [] State.reset)
       s.status.locked = false ∧ s.stepSize ≠ 0#32 ∧ s.randLen.toNat ≤ 40 ∧ s.randLen ≠ 0#6 ∧ (nextEntropy s).ok = false)
    ∧ (let s := randLen 1#6 (entropy true [7#8] State.reset)
       s.status.locked = false ∧ s.stepSize ≠ 0#32 ∧ s.randLen.toNat ≤ 40 ∧ s.randLen ≠ 0#6 ∧ (nextEntropy s).ok = true)
    ∧ (let s := randLen 40#6 (entropy true [7#8] State.reset)
       s.status.locked = false ∧ s.stepSize ≠ 0#32 ∧ s.randLen.toNat ≤ 40 ∧ s.randLen ≠ 0#6 ∧ (nextEntropy s).ok = true)
    ∧ (let s := randLen 0#6 State.reset
       s.status.locked = false ∧ s.stepSize ≠ 0#32 ∧ s.randLen = 0#6) := by decide

theorem witness_GensecTwentyBytesUnpadded :
    let s := entropy true [7#8] State.reset
    s.status.locked = false ∧ s.stepSize ≠ 0#32 ∧ s.randLen = 20#6 ∧ (nextEntropy s).ok = true := by decide

theorem witness_CodeIsSixDecimalDigits :
    (∃ t, exec .trunc State.reset = .next t ∧ t.status.err = .ok)
    ∧ (∃ t, exec .hotp counter1 = .next t ∧ t.status.err = .ok)
    ∧ (∃ t, exec .totp (timed true 59#64 locked) = .next t ∧ t.status.err = .ok)
    ∧ (∃ t, exec .totpS locked = .next t ∧ t.status.err = .ok) :=
  ⟨⟨_, rfl, by decide⟩, ⟨_, rfl, by decide⟩, ⟨_, rfl, by decide⟩, ⟨_, rfl, by decide⟩⟩

/-- Two digests that differ in byte 19's high bits only. -/
theorem witness_TruncationWindowStaysInside :
    let s := State.reset
    let s' : State := { State.reset with digest := State.reset.digest.set 19 0xF0#8 }
    (∀ k : Fin 19, s.digest[k.val] = s'.digest[k.val]) ∧ s.digest[19].toNat % 16 = s'.digest[19].toNat % 16
      ∧ s.digest ≠ s'.digest := by decide

theorem witness_HotpCodeOfCounterBytes :
    State.reset.status.locked = false
    ∧ (({ locked with ctrbLen := 7#4 } : State).status.locked = true ∧ ({ locked with ctrbLen := 7#4 } : State).ctrbLen ≠ 8#4)
    ∧ (counter1.status.locked = true ∧ counter1.ConfigOk ∧ counter1.ctrbLen = 8#4) :=
  ⟨rfl, by decide, rfl, locked_configOk.2, rfl⟩

theorem witness_TotpCodeOfStep :
    State.reset.status.locked = false
    ∧ (locked.status.locked = true
        ∧ ¬ SampleAccepted (timed false 9#64 locked) (nextTime (timed false 9#64 locked)))
    ∧ ((timed true 29#64 locked).status.locked = true ∧ (timed true 29#64 locked).ConfigOk
        ∧ SampleAccepted (timed true 29#64 locked) (nextTime (timed true 29#64 locked))) :=
  ⟨rfl, ⟨rfl, by simp only [SampleAccepted]; decide⟩, rfl, locked_configOk.2, by simp only [SampleAccepted]; decide⟩

theorem witness_TotpStepEqualsPackedHotp :
    let s : State := { locked with counter := 0xFFFFFFFFFFFFFFFF#64, stepReg := 0xFFFFFFFFFFFFFFFF#64 }
    s.status.locked = true ∧ s.counter = s.stepReg := ⟨rfl, rfl⟩

/-- Samples just below TLAST, equal to it, and invalid. -/
theorem witness_ClockSampleCheck :
    locked.status.locked = true
    ∧ (nextTime (timed false 7#64 locked)).valid = false
    ∧ (let s := timed true 99#64 { locked with tlast := 100#64, tlastValid := true }
       s.tlastValid = true ∧ (nextTime s).secs.toNat < s.tlast.toNat)
    ∧ (let s := timed true 100#64 { locked with tlast := 100#64, tlastValid := true }
       (nextTime s).valid = true ∧ s.tlast.toNat ≤ (nextTime s).secs.toNat)
    ∧ (let s := timed true 0#64 locked
       (nextTime s).valid = true ∧ s.tlastValid = false) := by decide

theorem witness_DrawsPerCommand :
    (∃ t, exec .vtotp (timed true 1#64 locked) = .next t) ∧ locked.status.locked = true
    ∧ (∃ t, exec .totp State.reset = .next t) ∧ State.reset.status.locked = false
    ∧ (let s := randLen 40#6 State.reset
       s.status.locked = false ∧ s.stepSize ≠ 0#32 ∧ s.randLen.toNat ≤ 40 ∧ s.randLen ≠ 0#6)
    ∧ (randLen 0#6 State.reset).randLen = 0#6 :=
  ⟨⟨_, rfl⟩, rfl, ⟨_, rfl⟩, rfl, by decide, rfl⟩

/-- With the window at its greatest, and clipped at 0 (TOL = 15, T = 0). -/
theorem witness_VtotpMatchesWindow :
    State.reset.status.locked = false
    ∧ (locked.status.locked = true
        ∧ ¬ SampleAccepted (timed false 9#64 locked) (nextTime (timed false 9#64 locked)))
    ∧ (let s := timed true 0#64 { locked with tol := 15#4 }
       s.status.locked = true ∧ s.ConfigOk ∧ SampleAccepted s (nextTime s)) :=
  ⟨rfl, ⟨rfl, by simp only [SampleAccepted]; decide⟩, rfl, locked_configOk.2, by simp only [SampleAccepted]; decide⟩

theorem witness_WindowCandidates :
    (15#4).toNat ≤ (15#64).toNat ∧ (0xFFFFFFFFFFFFFFF0#64).toNat + (15#4).toNat < 2 ^ 64 := by decide

/-- A code of T' = 59 (step 1), presented at T = 60 (step 2) with TOL = 1; and skews at both bounds. -/
theorem witness_SkewWithinToleranceAccepted :
    ∃ s t s' : State, s.status.locked = true ∧ s.ConfigOk ∧ SampleAccepted s (nextTime s) ∧ exec .totp s = .next t
      ∧ s'.status.locked = true ∧ s'.ConfigOk ∧ SampleAccepted s' (nextTime s') ∧ SameSecret s s'
      ∧ s'.stepSize = s.stepSize ∧ s'.codeInLen = 6#8 ∧ (∀ k : Fin 6, s'.codeIn[k.val] = t.code[k.val])
      ∧ (nextTime s).secs.toNat / s.stepSize.toNat ≤ (nextTime s').secs.toNat / s.stepSize.toNat + s'.tol.toNat
      ∧ (nextTime s').secs.toNat / s.stepSize.toNat ≤ (nextTime s).secs.toNat / s.stepSize.toNat + s'.tol.toNat :=
  ⟨timed true 59#64 locked, after .totp (timed true 59#64 locked),
    timed true 60#64 { locked with codeIn := (after .totp (timed true 59#64 locked)).code, codeInLen := 6#8 },
    rfl, locked_configOk.2, by simp only [SampleAccepted]; decide, rfl, rfl, locked_configOk.2,
    by simp only [SampleAccepted]; decide, ⟨rfl, rfl⟩, rfl, rfl, fun _ => rfl, by decide, by decide⟩

theorem witness_SkewBounds :
    ((59 : Nat) < 30 + 1 * 30 ∧ 30 < 59 + 1 * 30) ∧ (0 : Nat) + (1 + 1) * 30 ≤ 60 ∧ ¬ (60 / 30 ≤ 0 / 30 + 1) := by decide

theorem witness_VhotpMatchesCounterCode :
    State.reset.status.locked = false
    ∧ (({ locked with ctrbLen := 9#4 } : State).status.locked = true ∧ ({ locked with ctrbLen := 9#4 } : State).ctrbLen ≠ 8#4)
    ∧ (counter1.status.locked = true ∧ counter1.ConfigOk ∧ counter1.ctrbLen = 8#4) :=
  ⟨rfl, by decide, rfl, locked_configOk.2, rfl⟩

theorem witness_HotpCodeValidates :
    ∃ t, counter1.status.locked = true ∧ counter1.ctrbLen = 8#4 ∧ exec .hotp counter1 = .next t
      ∧ ∃ b : Byte, b ≠ t.code[5] :=
  ⟨_, rfl, rfl, rfl, ⟨_, (by decide : ∀ x : Byte, x + 1#8 ≠ x) _⟩⟩

theorem witness_ValidatorsRevealOnlyMatch :
    (∃ t t', exec .vhotp counter1 = .next t
      ∧ exec .vhotp { counter1 with secret := Vector.replicate 64 1#8, secretLen := 64#7 } = .next t')
    ∧ ∃ t t', exec .vtotp (timed true 59#64 locked) = .next t
      ∧ exec .vtotp { timed true 59#64 locked with secret := Vector.replicate 64 1#8, secretLen := 0#7 } = .next t' :=
  ⟨⟨_, _, rfl, rfl⟩, ⟨_, _, rfl, rfl⟩⟩

/-- Two states that agree on what a command reads and differ elsewhere: bytes past a length, and other registers. -/
theorem witness_CommandsReadOnlyTheirOperands :
    SameReads .b32enc State.reset { State.reset with inBuf := Vector.replicate 40 1#8 }
    ∧ SameReads .lock State.reset { State.reset with secret := Vector.replicate 64 1#8 }
    ∧ SameReads .gensec (entropy true [] State.reset) (entropy true [] { State.reset with tol := 3#4 })
    ∧ SameReads .trunc State.reset locked
    ∧ SameReads .hotp counter1 { counter1 with secret := locked.secret.set 63 1#8 }
    ∧ SameReads .pack64 State.reset locked
    ∧ SameReads .totp (timed true 1#64 locked) (timed true 1#64 { locked with tol := 3#4 })
    ∧ SameReads .totpS locked { locked with stepSize := 1#32 }
    ∧ SameReads .vtotp (timed true 1#64 locked) (timed true 1#64 { locked with codeIn := locked.codeIn.set 7 1#8 })
    ∧ SameReads .vhotp counter1 { counter1 with stepSize := 1#32 } := by
  simp only [SameReads, SameSecret, SameClock, SamePresented, secretString]
  decide

/-- The last unmapped word of the map, and the ends of its gaps (R45). -/
theorem witness_RegisterMap :
    windowWord 0x04C = none ∧ windowWord 0x06C = none ∧ windowWord 0x084 = none ∧ windowWord 0x0FC = none
      ∧ windowWord 0x168 = none ∧ windowWord 0x17C = none ∧ windowWord 0x1C0 = none ∧ windowWord 0x080 = some (.digest 4)
      ∧ windowWord 0x13C = some (.secret 15) ∧ windowWord 0x164 = some (.inBuf 9) ∧ windowWord 0x1BC = some (.outBuf 15)
      ∧ windowWord 0x064 = some (.ctrb 1) := by decide

theorem witness_BusErrorsHaveNoEffect :
    (host .byte 0x000 .read [] State.reset).HostTurn .byte 0x000 .read [] ∧ busAccessWf Width.byte.bytes 0x000 = false
    ∧ (host .word 0x1FE (.write 1#32) [] State.reset).HostTurn .word 0x1FE (.write 1#32) []
    ∧ busAccessWf Width.word.bytes 0x1FE = false
    ∧ (host .word 0x1BC .read [] State.reset).HostTurn .word 0x1BC .read [] ∧ busAccessWf Width.word.bytes 0x1BC = true :=
  ⟨host_turn _ _ _ _ _ rfl, by decide, host_turn _ _ _ _ _ rfl, by decide, host_turn _ _ _ _ _ rfl, by decide⟩

theorem witness_ReadsReturnFieldsWithoutEffect :
    (host .word 0x13C .read [.engine] locked).HostTurn .word 0x13C .read [.engine]
      ∧ windowWord 0x13C = some (.secret 15) := ⟨host_turn _ _ _ _ _ rfl, by decide⟩

theorem witness_WriteCases :
    (∀ off op s, s.resetPin = false → (host .word off op [] s).HostTurn .word off op [])
    ∧ windowWord 0x000 = some .cmd ∧ windowWord 0x004 = some .status ∧ windowWord 0x008 = some .ctrl
    ∧ (windowWord 0x1BC = some (.outBuf 15) ∧ (WindowWord.outBuf 15).ReadOnly)
    ∧ (windowWord 0x164 = some (.inBuf 9) ∧ (WindowWord.inBuf 9).HostWritable)
    ∧ (windowWord 0x13C = some (.secret 15) ∧ (WindowWord.secret 15).LockProtected)
    ∧ (windowWord 0x018 = some .secretLen ∧ WindowWord.secretLen.LockProtected)
    ∧ State.reset.status.busy = false ∧ State.reset.status.locked = false
    ∧ locked.status.busy = false ∧ locked.status.locked = true ∧ (pending 1#32 locked).status.busy = true := by
  refine ⟨fun off op s h => host_turn _ _ _ _ _ h, by decide, by decide, by decide, ⟨by decide, ?_⟩, ⟨by decide, ?_⟩,
    ⟨by decide, ?_⟩, ⟨by decide, ?_⟩, rfl, rfl, rfl, rfl, rfl⟩
  · simp [WindowWord.ReadOnly]
  · simp [WindowWord.HostWritable]
  · simp [WindowWord.LockProtected]
  · simp [WindowWord.LockProtected]

theorem witness_WritesWhileBusyDropped :
    (host .word 0x01C (.write 3#32) [] (pending 1#32 State.reset)).HostTurn .word 0x01C (.write 3#32) []
    ∧ windowWord 0x01C = some .inLen ∧ WindowWord.inLen.HostWritable ∧ (pending 1#32 State.reset).status.busy = true
    ∧ (host .word 0x004 (.write 0xFFFFFFFF#32) [] (pending 1#32 State.reset)).HostTurn .word 0x004 (.write 0xFFFFFFFF#32) []
    ∧ windowWord 0x004 = some .status
    ∧ (host .word 0x008 (.write 1#32) [] (pending 1#32 State.reset)).HostTurn .word 0x008 (.write 1#32) []
    ∧ windowWord 0x008 = some .ctrl
    ∧ (host .word 0x000 .read [] (pending 1#32 State.reset)).HostTurn .word 0x000 .read []
    ∧ windowWord 0x000 = some .cmd :=
  ⟨host_turn _ _ _ _ _ rfl, by decide, by simp [WindowWord.HostWritable], rfl, host_turn _ _ _ _ _ rfl, by decide,
    host_turn _ _ _ _ _ rfl, by decide, host_turn _ _ _ _ _ rfl, by decide⟩

theorem witness_LockedWritesDropped :
    (host .word 0x13C (.write 1#32) [] locked).HostTurn .word 0x13C (.write 1#32) []
    ∧ (host .word 0x00C (.write 1#32) [] (pending 1#32 locked)).HostTurn .word 0x00C (.write 1#32) []
    ∧ locked.status.locked = true ∧ locked.status.busy = false ∧ (pending 1#32 locked).status.locked = true
    ∧ (pending 1#32 locked).status.busy = true :=
  ⟨host_turn _ _ _ _ _ rfl, host_turn _ _ _ _ _ rfl, rfl, rfl, rfl, rfl⟩

theorem witness_HiddenStateUnreachable :
    ∃ t, (host .word 0x000 (.write 7#32) [] locked).schedule = .access ⟨.word, Config.otpbBase + 0x000, .write 7#32⟩ :: []
      ∧ step (host .word 0x000 (.write 7#32) [] locked) = .next t := ⟨_, rfl, rfl⟩

theorem witness_OperandsFixedInFlight :
    ∃ s' t, (pending 1#32 State.reset).resetPin = false ∧ (pending 1#32 State.reset).status.busy = true
      ∧ (host .word 0x01C (.write 3#32) [] (pending 1#32 State.reset)).schedule
        = .access ⟨.word, Config.otpbBase + 0x01C, .write 3#32⟩ :: []
      ∧ step (host .word 0x01C (.write 3#32) [] (pending 1#32 State.reset)) = .next s'
      ∧ exec .b32enc (host .word 0x01C (.write 3#32) [] (pending 1#32 State.reset)) = .next t :=
  ⟨_, _, rfl, rfl, rfl, rfl, rfl⟩

theorem witness_IrqIsEnabledDone :
    (∃ t, (pending 4#32 locked).EngineTurn ∧ step (pending 4#32 locked) = .next t)
    ∧ (host .word 0x004 (.write 2#32) [] locked).HostTurn .word 0x004 (.write 2#32) []
    ∧ (host .word 0x008 (.write 0#32) [] locked).HostTurn .word 0x008 (.write 0#32) []
    ∧ (host .word 0x000 (.write 4#32) [] locked).HostTurn .word 0x000 (.write 4#32) [] ∧ locked.status.busy = false
    ∧ (host .byte 0x000 (.write 4#32) [] locked).HostTurn .byte 0x000 (.write 4#32) []
    ∧ ((host .word 0x000 (.write 4#32) [] (pending 1#32 locked)).HostTurn .word 0x000 (.write 4#32) []
        ∧ (host .word 0x000 (.write 4#32) [] (pending 1#32 locked)).status.busy = true)
    ∧ (host .word 0x200 .read [] locked).HostTurn .word 0x200 .read [] :=
  ⟨⟨_, engine_turn _ rfl rfl rfl, rfl⟩, host_turn _ _ _ _ _ rfl, host_turn _ _ _ _ _ rfl, host_turn _ _ _ _ _ rfl, rfl,
    host_turn _ _ _ _ _ rfl, ⟨host_turn _ _ _ _ _ rfl, rfl⟩, host_turn _ _ _ _ _ rfl⟩

/-- Reset is asserted, and what comes next is its release, or an access. -/
theorem witness_ResetReleaseGivesResetValues :
    (let s : State := { assertReset locked with schedule := [.resetRelease] }
     s.resetPin = true ∧ s.schedule = .resetRelease :: [])
    ∧ (let s := host .word 0x000 .read [] (assertReset locked)
       s.resetPin = true ∧ s.schedule = .access ⟨.word, Config.otpbBase + 0x000, .read⟩ :: []) :=
  ⟨⟨rfl, rfl⟩, ⟨rfl, rfl⟩⟩

theorem witness_ResetAbandonsPendingCommand :
    ({ pending 7#32 locked with schedule := [.resetAssert] } : State).schedule = .resetAssert :: []
    ∧ ∃ s t, s.resetPin = true ∧ HoldsResetValues s ∧ step s = .next t :=
  ⟨rfl, { State.reset with resetPin := true, schedule := [.engine] }, _, rfl,
    ⟨by decide, rfl, rfl, rfl, rfl, rfl, by decide, rfl, by decide, rfl, by decide, rfl, rfl, by decide, rfl, rfl, by decide,
      rfl, rfl, by decide, rfl, by decide, rfl, rfl, rfl⟩, rfl⟩

/-- A state of the invariant with a pending command, whose step is that command's. -/
theorem witness_StepKeepsInvariant : ∃ t, (pending 4#32 State.reset).Inv ∧ step (pending 4#32 State.reset) = .next t :=
  ⟨_, ⟨by decide, by decide, by decide, by decide, by decide, by decide⟩, rfl⟩

theorem witness_LockedConfigNeverChanges :
    ∃ t, State.NoReset { pending 3#32 locked with schedule := [.engine, .engine] }
      ∧ (pending 3#32 locked).status.locked = true
      ∧ Sys2Proof.core.run 2 { pending 3#32 locked with schedule := [.engine, .engine] } = .next t :=
  ⟨_, ⟨rfl, by decide⟩, rfl, rfl⟩

theorem witness_TlastNeverDecreases :
    ∃ s t, s.NoReset ∧ s.tlastValid = true ∧ s.status.locked = true ∧ Sys2Proof.core.run 1 s = .next t :=
  ⟨timed true 59#64 { pending 7#32 locked with tlast := 58#64, tlastValid := true }, _, ⟨rfl, by decide⟩, rfl, rfl, rfl⟩

end Sys2Proof.Tests
end

section
/-! # What one command, one access and one step can do

The inversion lemmas of this family: how a command ends (`Ends`), the fields that a host access leaves alone, and the
events of a step while reset is neither asserted nor scheduled. -/
namespace Sys2Proof.Machine

/-! ### How a command ends -/

/-- Only the entropy port and its count can change in a draw of entropy (R78). -/
theorem afterEntropy_moves (n : Nat) (s : State) :
    ∃ p d, afterEntropy n s = { s with entropyPort := p, entropyDraws := d } := by
  unfold afterEntropy
  split
  · exact ⟨s.entropyPort, s.entropyDraws, rfl⟩
  · exact ⟨_, _, rfl⟩

@[simp] theorem afterEntropy_status (n : Nat) (s : State) : (afterEntropy n s).status = s.status := by
  obtain ⟨p, d, e⟩ := afterEntropy_moves n s
  rw [e]

@[simp] theorem afterEntropy_stepSize (n : Nat) (s : State) : (afterEntropy n s).stepSize = s.stepSize := by
  obtain ⟨p, d, e⟩ := afterEntropy_moves n s
  rw [e]

@[simp] theorem afterEntropy_tlast (n : Nat) (s : State) : (afterEntropy n s).tlast = s.tlast := by
  obtain ⟨p, d, e⟩ := afterEntropy_moves n s
  rw [e]

@[simp] theorem afterEntropy_tlastValid (n : Nat) (s : State) : (afterEntropy n s).tlastValid = s.tlastValid := by
  obtain ⟨p, d, e⟩ := afterEntropy_moves n s
  rw [e]

@[simp] theorem afterEntropy_resetPin (n : Nat) (s : State) : (afterEntropy n s).resetPin = s.resetPin := by
  obtain ⟨p, d, e⟩ := afterEntropy_moves n s
  rw [e]

@[simp] theorem afterEntropy_schedule (n : Nat) (s : State) : (afterEntropy n s).schedule = s.schedule := by
  obtain ⟨p, d, e⟩ := afterEntropy_moves n s
  rw [e]

/-- The ends of a command run from `s` (R39, R102), with the checks that each end without error rests on: an error before
any draw, an error of a port's answer, or the writes of the command and its completion. -/
inductive Ends (s : State) : Instr → State → Prop
  | error (i : Instr) {e : ErrCode} (he : e ≠ .ok) : Ends s i (raiseError e s)
  | clockError (i : Instr) : Ends s i (raiseError .clockUnavailable (drawTime s))
  | entropyError (n : Nat) (hl : s.status.locked = false) :
      Ends s .gensec (raiseError .randomSourceExhausted (afterEntropy n s))
  | b32enc (hn : s.inLen.toNat ≤ 40) : Ends s .b32enc (complete false (writeOut (base32 (inputBytes s)) s))
  | lock (hl : s.status.locked = false) (hz : s.stepSize ≠ 0#32) (hn : s.secretLen.toNat ≤ 64) :
      Ends s .lock (complete false (setLocked s))
  | gensec (n : Nat) {b : List Byte} (hl : s.status.locked = false) (hz : s.stepSize ≠ 0#32) (hb : b.length ≤ 40) :
      Ends s .gensec (complete false (setLocked (writeSecret (base32 b) (afterEntropy n s))))
  | trunc : Ends s .trunc (complete false (writeCode (truncDigest s.digest) s))
  | hotp (hl : s.status.locked = true) :
      Ends s .hotp (complete false (writeCode (hotpOf (secretKey s) s.ctrb) s))
  | pack64 : Ends s .pack64 (complete false (writeCounterBytes (pack64 s.counter) s))
  | totp (st : BitVec 64) (hl : s.status.locked = true) (hx : SampleAccepted s (nextTime s)) :
      Ends s .totp (complete false (acceptTime (nextTime s).secs (writeStepUsed st
        (writeCode (hotpOf (secretKey s) (Machine.pack64 st)) (drawTime s)))))
  | totpS (hl : s.status.locked = true) :
      Ends s .totpS (complete false (writeStepUsed s.stepReg
        (writeCode (hotpOf (secretKey s) (Machine.pack64 s.stepReg)) s)))
  | vtotp (m : Bool) (st : BitVec 64) (hl : s.status.locked = true) (hx : SampleAccepted s (nextTime s)) :
      Ends s .vtotp (complete m (acceptTime (nextTime s).secs (writeStepUsed st (drawTime s))))
  | vhotp (m : Bool) (hl : s.status.locked = true) : Ends s .vhotp (complete m s)

/-- Every command answers a next state, one of its ends. -/
theorem exec_ends (i : Instr) (s : State) : ∃ t, exec i s = .next t ∧ Ends s i t := by
  cases i with
  | b32enc =>
    obtain ⟨-, h⟩ | ⟨hn, h⟩ := execB32enc_cases s
    · exact ⟨_, h, .error _ nofun⟩
    · exact ⟨_, h, .b32enc hn⟩
  | lock =>
    obtain ⟨-, h⟩ | ⟨-, -, h⟩ | ⟨-, -, -, h⟩ | ⟨hl, hz, hn, h⟩ := execLock_cases s
    · exact ⟨_, h, .error _ nofun⟩
    · exact ⟨_, h, .error _ nofun⟩
    · exact ⟨_, h, .error _ nofun⟩
    · exact ⟨_, h, .lock hl hz hn⟩
  | gensec =>
    obtain ⟨-, h⟩ | ⟨-, -, h⟩ | ⟨hl, -, -, -, -, h⟩ | ⟨hl, hz, hn, -, -, h⟩ | ⟨hl, hz, -, h⟩ := execGensec_cases s
    · exact ⟨_, h, .error _ nofun⟩
    · exact ⟨_, h, .error _ nofun⟩
    · exact ⟨_, h, .entropyError _ hl⟩
    · exact ⟨_, h, .gensec _ hl hz ((List.length_take_le _ _).trans hn)⟩
    · exact ⟨_, h, .gensec 0 hl hz (Nat.zero_le 40)⟩
  | trunc => exact ⟨_, execTrunc_eq s, .trunc⟩
  | hotp =>
    obtain ⟨-, h⟩ | ⟨-, -, h⟩ | ⟨hl, -, h⟩ := execHotp_cases s
    · exact ⟨_, h, .error _ nofun⟩
    · exact ⟨_, h, .error _ nofun⟩
    · exact ⟨_, h, .hotp hl⟩
  | pack64 => exact ⟨_, execPack64_eq s, .pack64⟩
  | totp =>
    obtain ⟨-, h⟩ | ⟨-, -, h⟩ | ⟨hl, hx, h⟩ := execTotp_cases s
    · exact ⟨_, h, .error _ nofun⟩
    · exact ⟨_, h, .clockError _⟩
    · exact ⟨_, h, .totp _ hl hx⟩
  | totpS =>
    obtain ⟨-, h⟩ | ⟨hl, h⟩ := execTotpS_cases s
    · exact ⟨_, h, .error _ nofun⟩
    · exact ⟨_, h, .totpS hl⟩
  | vtotp =>
    obtain ⟨-, h⟩ | ⟨-, -, h⟩ | ⟨hl, hx, h⟩ := execVtotp_cases s
    · exact ⟨_, h, .error _ nofun⟩
    · exact ⟨_, h, .clockError _⟩
    · exact ⟨_, h, .vtotp _ _ hl hx⟩
  | vhotp =>
    obtain ⟨-, h⟩ | ⟨-, -, h⟩ | ⟨hl, -, h⟩ := execVhotp_cases s
    · exact ⟨_, h, .error _ nofun⟩
    · exact ⟨_, h, .error _ nofun⟩
    · exact ⟨_, h, .vhotp _ hl⟩

theorem ends_of_exec {i : Instr} {s t : State} (h : exec i s = .next t) : Ends s i t := by
  obtain ⟨u, hu, hends⟩ := exec_ends i s
  cases hu.symm.trans h
  exact hends

/-- No command touches the reset input or the schedule. -/
theorem Ends.outside {s t : State} {i : Instr} (h : Ends s i t) :
    t.resetPin = s.resetPin ∧ t.schedule = s.schedule := by
  cases h <;> simp

/-! ### What a host access leaves alone -/

/-- No write to a word of the window touches LOCKED, the clock's registers, the outside's events or the count of entropy
draws. -/
theorem writeWord_frame (r : WindowWord) (v : Word) (s : State) :
    (writeWord r v s).status.locked = s.status.locked
      ∧ (writeWord r v s).tlast = s.tlast ∧ (writeWord r v s).tlastValid = s.tlastValid
      ∧ (writeWord r v s).resetPin = s.resetPin ∧ (writeWord r v s).schedule = s.schedule
      ∧ (writeWord r v s).entropyDraws = s.entropyDraws := by
  obtain ⟨-, -, e⟩ | ⟨-, -, e⟩ | ⟨-, e⟩ | ⟨-, e⟩ | ⟨-, e⟩ | ⟨-, -, -, e⟩ | ⟨-, -, e⟩ := writeWord_cases r v s <;> rw [e]
  iterate 6 exact ⟨rfl, rfl, rfl, rfl, rfl, rfl⟩
  simp only [storeWord_frame, and_self]

/-- No host access touches them either. -/
theorem hostAccess_frame (a : BusAccess) (s : State) :
    (hostAccess a s).status.locked = s.status.locked
      ∧ (hostAccess a s).tlast = s.tlast ∧ (hostAccess a s).tlastValid = s.tlastValid
      ∧ (hostAccess a s).resetPin = s.resetPin ∧ (hostAccess a s).schedule = s.schedule
      ∧ (hostAccess a s).entropyDraws = s.entropyDraws := by
  obtain ⟨x, e⟩ | ⟨-, r, v, x, -, e⟩ := hostAccess_cases a s
  · rw [e]; exact ⟨rfl, rfl, rfl, rfl, rfl, rfl⟩
  · rw [e]; exact writeWord_frame r v s

/-! ### Whose event a step is -/

theorem access_step {s : State} {a : BusAccess} {rest : List Event} (h : s.schedule = .access a :: rest) :
    step s = .next (hostAccess a s.popped) := by
  rw [popped_of_cons h]
  simp only [step, advance, runEvent, h]

theorem engineFirst_step {s : State} (h : s.schedule = [] ∨ ∃ rest, s.schedule = .engine :: rest) :
    step s = engineStep s.popped := by
  obtain h | ⟨rest, h⟩ := h
  · rw [popped_of_nil h]; simp only [step, advance, h]
  · rw [popped_of_cons h]; simp only [step, advance, runEvent, h]

theorem engineStep_of_idle {s : State} (h : s.status.busy = false ∨ s.resetPin = true) : engineStep s = .next s := by
  obtain h | h := h <;> simp [engineStep, h]

/-- A write to a mapped word, on the host's turn. -/
theorem hostTurn_write {s : State} {off : Nat} {v : Word} {rest : List Event} {r : WindowWord}
    (h : s.HostTurn .word off (.write v) rest) (hr : windowWord off = some r) :
    step s = .next (respond true none (writeWord r v { s with schedule := rest })) := by
  rw [hostTurn_step h (windowWord_lt hr), windowAccess_write _ v hr]

/-- A read of a mapped word, on the host's turn. -/
theorem hostTurn_read {s : State} {off : Nat} {rest : List Event} {r : WindowWord}
    (h : s.HostTurn .word off .read rest) (hr : windowWord off = some r) :
    step s = .next (respond true (some (readWord { s with schedule := rest } r)) { s with schedule := rest }) := by
  rw [hostTurn_step h (windowWord_lt hr), windowAccess_read _ hr]

/-! ### A step while no reset comes -/

theorem releaseReset_of_released {s : State} (hp : s.resetPin = false) : releaseReset s = s := by
  simp [releaseReset, hp]

/-- With reset neither asserted nor scheduled a step is a host access, the end of a command, ILLEGAL_CMD, or nothing, at
the state with the schedule's first event taken. -/
theorem noReset_step_cases {s t : State} (hs : s.NoReset) (h : step s = .next t) :
    t = s.popped ∨ (∃ a, t = hostAccess a s.popped) ∨ t = raiseError .illegalCmd s.popped ∨ ∃ i, Ends s.popped i t := by
  obtain ⟨hp, hr⟩ := hs
  obtain e | ⟨a, -, e⟩ | ⟨ha, -⟩ | e := step_cases s
  · obtain ⟨-, e'⟩ | ⟨-, -, e'⟩ | ⟨-, -, i, e'⟩ := engineStep_cases s.popped
    · cases h.symm.trans (e.trans e'); exact .inl rfl
    · cases h.symm.trans (e.trans e'); exact .inr (.inr (.inl rfl))
    · exact .inr (.inr (.inr ⟨i, ends_of_exec (e'.symm.trans (e.symm.trans h))⟩))
  · cases h.symm.trans e; exact .inr (.inl ⟨a, rfl⟩)
  · exact absurd ha hr
  · cases h.symm.trans e; exact .inl (releaseReset_of_released hp)

/-- Without a scheduled reset there is none after a step. -/
theorem noReset_step {s t : State} (hs : s.NoReset) (h : step s = .next t) : t.NoReset := by
  have hpop : s.popped.NoReset := ⟨hs.1, fun hm => hs.2 (List.mem_of_mem_tail hm)⟩
  obtain rfl | ⟨a, rfl⟩ | rfl | ⟨i, he⟩ := noReset_step_cases hs h
  · exact hpop
  · obtain ⟨-, -, -, hp, hq, -⟩ := hostAccess_frame a s.popped
    exact ⟨hp.trans hpop.1, hq ▸ hpop.2⟩
  · exact hpop
  · obtain ⟨hp, hq⟩ := he.outside
    exact ⟨hp.trans hpop.1, hq ▸ hpop.2⟩

/-- What every step keeps, every run keeps. -/
theorem run_keeps {P : State → Prop} (hstep : ∀ s t, P s → step s = .next t → P t) (n : Nat) {s t : State}
    (hs : P s) (h : Sys2Proof.core.run n s = .next t) : P t := by
  induction n generalizing s with
  | zero => cases h; exact hs
  | succ n ih =>
    cases hu : step s with
    | next u => exact ih (hstep s u hs hu) (by simpa [Host.Core.run, core, hu] using h)
    | fault r => cases r
    | refused r => simp [Host.Core.run, core, hu] at h

end Sys2Proof.Machine
end

section
/-! # The invariant

Each named update keeps the clauses about registers under the guard that the command or the access gives it; an end of a
command and an access are compositions of updates. -/
namespace Sys2Proof.Machine

/-- The clauses of the invariant that speak of registers, apart from the reset input's. -/
def State.RegistersOk (s : State) : Prop := s.ConfigOk ∧ s.OutOk ∧ s.CodeOk ∧ s.FlagsOk ∧ s.ClockOk

theorem inv_iff (s : State) : s.Inv ↔ s.RegistersOk ∧ s.ResetOk :=
  ⟨fun ⟨hcfg, hout, hcode, hflags, hclk, hr⟩ => ⟨⟨hcfg, hout, hcode, hflags, hclk⟩, hr⟩,
    fun ⟨⟨hcfg, hout, hcode, hflags, hclk⟩, hr⟩ => ⟨hcfg, hout, hcode, hflags, hclk, hr⟩⟩

/-- With reset released the invariant is its clauses about registers. -/
theorem inv_of_released {s : State} (h : s.RegistersOk) (hp : s.resetPin = false) : s.Inv :=
  (inv_iff s).mpr ⟨h, fun hr => absurd hr (by simp [hp])⟩

/-! ### The updates of a completion -/

theorem registersOk_raiseError {s : State} (h : s.RegistersOk) (e : ErrCode) : (raiseError e s).RegistersOk := by
  obtain ⟨hcfg, hout, hcode, ⟨-, -, hwl⟩, hclk⟩ := h
  exact ⟨hcfg, hout, hcode, ⟨nofun, nofun, hwl⟩, hclk⟩

theorem registersOk_complete {s : State} (h : s.RegistersOk) {m : Bool} (hm : m = true → s.status.locked = true) :
    (complete m s).RegistersOk := by
  obtain ⟨hcfg, hout, hcode, ⟨-, -, hwl⟩, hclk⟩ := h
  exact ⟨hcfg, hout, hcode, ⟨nofun, fun hm' => ⟨rfl, hm hm'⟩, hwl⟩, hclk⟩

theorem registersOk_drawTime {s : State} (h : s.RegistersOk) : (drawTime s).RegistersOk := h

theorem registersOk_afterEntropy {s : State} (h : s.RegistersOk) (n : Nat) : (afterEntropy n s).RegistersOk := by
  obtain ⟨p, d, e⟩ := afterEntropy_moves n s
  rw [e]; exact h

theorem registersOk_writeCounterBytes {s : State} (h : s.RegistersOk) (b : Vector Byte 8) :
    (writeCounterBytes b s).RegistersOk := h

/-- Base32 of at most 40 bytes has a length that OUT and SECRET hold (R70). -/
theorem base32_length_le {b : List Byte} (hb : b.length ≤ 40) : (base32 b).length ≤ 64 := by
  rw [base32_length]; omega

/-- R70, R43: Base32 of at most 40 bytes leaves OUT_LEN a multiple of 8 and OUT 0x00 past it. -/
theorem registersOk_writeOut {s : State} (h : s.RegistersOk) {b : List Byte} (hb : b.length ≤ 40) :
    (writeOut (base32 b) s).RegistersOk := by
  obtain ⟨hcfg, -, hcode, hflags, hclk⟩ := h
  have hlen : (BitVec.ofNat 7 (base32 b).length).toNat = (base32 b).length := by
    have := base32_length_le hb
    rw [BitVec.toNat_ofNat]; omega
  refine ⟨hcfg, ⟨?_, ?_, fun k hk => ?_⟩, hcode, hflags, hclk⟩
  · rw [writeOut_outLen, hlen]; exact base32_length_le hb
  · rw [writeOut_outLen, hlen, base32_length]; omega
  · rw [writeOut_outLen, hlen] at hk
    simp only [writeOut_outBuf, fillBuf_getElem, List.getD_eq_default _ _ hk]

/-- R75, R77, R78: construction, after its checks. -/
theorem registersOk_setLocked {s : State} (h : s.RegistersOk) (hz : s.stepSize ≠ 0#32) (hn : s.secretLen.toNat ≤ 64) :
    (setLocked s).RegistersOk := by
  obtain ⟨-, hout, hcode, ⟨hbusy, hmatch, -⟩, hvalid, -⟩ := h
  exact ⟨fun _ => ⟨hz, hn⟩, hout, hcode, ⟨hbusy, fun hm => ⟨(hmatch hm).1, rfl⟩, fun _ => rfl⟩, hvalid, nofun⟩

/-- Before construction SECRET and SECRET_LEN are free. -/
theorem registersOk_writeSecret {s : State} (h : s.RegistersOk) (hl : s.status.locked = false) (t : List Byte) :
    (writeSecret t s).RegistersOk := by
  obtain ⟨-, hout, hcode, hflags, hclk⟩ := h
  exact ⟨fun hl' => absurd (hl.symm.trans hl') (by decide), hout, hcode, hflags, hclk⟩

/-- R81, R82, R43: the three result registers of a truncation agree. -/
theorem codeOk_of_holdsCodeOf {s : State} {d : Vector Byte 20} (h : HoldsCodeOf s d) : s.CodeOk := by
  obtain ⟨hv, hcv, hdigit, h6, h7⟩ := h
  refine ⟨by rw [hv, hcv], h6, h7, .inr fun k => ?_⟩
  rw [hdigit k, hcv, specDigit]

theorem registersOk_writeCode {s : State} (h : s.RegistersOk) (d : Vector Byte 20) :
    (writeCode (truncDigest d) s).RegistersOk := by
  obtain ⟨hcfg, hout, -, hflags, hclk⟩ := h
  exact ⟨hcfg, hout, codeOk_of_holdsCodeOf (holdsCodeOf_of_fields rfl rfl rfl), hflags, hclk⟩

theorem registersOk_writeStepUsed {s : State} (h : s.RegistersOk) (hl : s.status.locked = true) (st : BitVec 64) :
    (writeStepUsed st s).RegistersOk := by
  obtain ⟨hcfg, hout, hcode, hflags, hvalid, -⟩ := h
  exact ⟨hcfg, hout, hcode, hflags, hvalid, fun hl' => absurd (hl.symm.trans hl') (by decide)⟩

theorem registersOk_acceptTime {s : State} (h : s.RegistersOk) (hl : s.status.locked = true) (x : BitVec 64) :
    (acceptTime x s).RegistersOk := by
  obtain ⟨hcfg, hout, hcode, hflags, -⟩ := h
  exact ⟨hcfg, hout, hcode, hflags, nofun, fun hl' => absurd (hl.symm.trans hl') (by decide)⟩

/-- Every command keeps the clauses about registers. -/
theorem Ends.registersOk {s t : State} {i : Instr} (he : Ends s i t) (h : s.RegistersOk) : t.RegistersOk := by
  cases he with
  | error => exact registersOk_raiseError h _
  | clockError => exact registersOk_raiseError (registersOk_drawTime h) _
  | entropyError n => exact registersOk_raiseError (registersOk_afterEntropy h n) _
  | b32enc hn =>
    have hb : (inputBytes s).length ≤ 40 := (inputBytes_length hn).trans_le hn
    exact registersOk_complete (registersOk_writeOut h hb) nofun
  | lock hl hz hn => exact registersOk_complete (registersOk_setLocked h hz hn) nofun
  | @gensec n b hl hz hb =>
    have hlen := base32_length_le hb
    have hw := registersOk_writeSecret (registersOk_afterEntropy h n) (by simpa using hl) (base32 b)
    refine registersOk_complete (registersOk_setLocked hw ?_ ?_) nofun
    · simpa using hz
    · rw [writeSecret_secretLen, BitVec.toNat_ofNat]; omega
  | trunc | hotp => exact registersOk_complete (registersOk_writeCode h _) nofun
  | pack64 => exact registersOk_complete (registersOk_writeCounterBytes h _) nofun
  | totp st hl =>
    have hc := registersOk_writeCode (registersOk_drawTime h) (Config.hmacSha1 (secretKey s) (Machine.pack64 st))
    exact registersOk_complete (registersOk_acceptTime (registersOk_writeStepUsed hc hl st) hl _) nofun
  | totpS hl => exact registersOk_complete (registersOk_writeStepUsed (registersOk_writeCode h _) hl _) nofun
  | vtotp m st hl =>
    exact registersOk_complete (registersOk_acceptTime (registersOk_writeStepUsed (registersOk_drawTime h) hl st) hl _)
      fun _ => hl
  | vhotp m hl => exact registersOk_complete h fun _ => hl

/-! ### The updates of a host access -/

theorem registersOk_writeWord {s : State} (h : s.RegistersOk) (r : WindowWord) (v : Word) :
    (writeWord r v s).RegistersOk := by
  obtain ⟨hcfg, hout, hcode, ⟨hbusy, hmatch, hwl⟩, hclk⟩ := h
  obtain ⟨-, -, e⟩ | ⟨-, -, e⟩ | ⟨-, e⟩ | ⟨-, e⟩ | ⟨-, e⟩ | ⟨-, -, hl, e⟩ | ⟨ha, -, e⟩ := writeWord_cases r v s <;>
    rw [e]
  · exact ⟨hcfg, hout, hcode, ⟨fun _ => rfl, hmatch, hwl⟩, hclk⟩
  · exact ⟨hcfg, hout, hcode, ⟨hbusy, hmatch, hwl⟩, hclk⟩
  · refine ⟨hcfg, hout, hcode, ⟨fun hb => ?_, hmatch, fun hw => hwl ?_⟩, hclk⟩
    · rw [writeOneToClear_done, hbusy hb, Bool.false_and]
    · exact (Bool.and_eq_true_iff.mp hw).1
  · exact ⟨hcfg, hout, hcode, ⟨hbusy, hmatch, hwl⟩, hclk⟩
  · exact ⟨hcfg, hout, hcode, ⟨hbusy, hmatch, hwl⟩, hclk⟩
  · exact ⟨hcfg, hout, hcode, ⟨hbusy, hmatch, fun _ => hl⟩, hclk⟩
  · have hcfg' : (storeWord r v s).ConfigOk := fun hl => by
      have hl' : s.status.locked = true := by simpa only [storeWord_frame] using hl
      have hr : r.access ≠ .rwl := fun hr => by simp [hr, hl'] at ha
      simpa only [storeWord_config r v s hr] using hcfg hl'
    refine ⟨hcfg', ?_⟩
    simp only [State.OutOk, State.CodeOk, State.FlagsOk, State.ClockOk, storeWord_frame]
    exact ⟨hout, hcode, ⟨hbusy, hmatch, hwl⟩, hclk⟩

theorem registersOk_hostAccess {s : State} (h : s.RegistersOk) (a : BusAccess) : (hostAccess a s).RegistersOk := by
  obtain ⟨x, e⟩ | ⟨-, r, v, x, -, e⟩ := hostAccess_cases a s
  · rw [e]; exact h
  · rw [e]; exact registersOk_writeWord h r v

/-! ### Events -/

theorem hostAccess_keeps_inv {s : State} (h : s.Inv) (a : BusAccess) : (hostAccess a s).Inv := by
  obtain ⟨hregs, hreset⟩ := (inv_iff s).mp h
  refine (inv_iff _).mpr ⟨registersOk_hostAccess hregs a, fun hp => ?_⟩
  obtain ⟨-, -, -, hpin, -, -⟩ := hostAccess_frame a s
  rw [hpin] at hp
  have hn : hostAccess a s = noAnswer s := by simp [hostAccess, hp]
  rw [hn]
  exact congrArg noAnswer (hreset hp)

theorem engineStep_keeps_inv {s t : State} (h : s.Inv) (ht : engineStep s = .next t) : t.Inv := by
  obtain ⟨hregs, -⟩ := (inv_iff s).mp h
  obtain ⟨-, e⟩ | ⟨hp, -, e⟩ | ⟨hp, -, i, e⟩ := engineStep_cases s
  · cases ht.symm.trans e; exact h
  · cases ht.symm.trans e
    exact inv_of_released (registersOk_raiseError hregs _) hp
  · have he := ends_of_exec (e.symm.trans ht)
    exact inv_of_released (he.registersOk hregs) (he.outside.1.trans hp)

/-- R118: the reset values, whatever the outside does. -/
theorem registersOk_resetRegisters (s : State) : (resetRegisters s).RegistersOk := by
  have h : State.reset.RegistersOk := by
    refine ⟨nofun, ⟨by decide, by decide, fun k _ => ?_⟩, ⟨by decide, by decide, by decide, .inl ⟨rfl, by decide⟩⟩,
      ⟨nofun, nofun, nofun⟩, fun _ => rfl, fun _ => ⟨rfl, rfl⟩⟩
    exact Vector.getElem_replicate _
  exact h

theorem assertReset_inv (s : State) : (assertReset s).Inv :=
  (inv_iff _).mpr ⟨registersOk_resetRegisters s, fun _ => rfl⟩

theorem releaseReset_keeps_inv {s : State} (h : s.Inv) : (releaseReset s).Inv := by
  cases hp : s.resetPin
  · rw [releaseReset_of_released hp]; exact h
  · rw [releaseReset, if_pos hp]
    exact inv_of_released (registersOk_resetRegisters s) rfl

theorem popped_keeps_inv {s : State} (h : s.Inv) : s.popped.Inv := by
  obtain ⟨hregs, hreset⟩ := (inv_iff s).mp h
  exact (inv_iff _).mpr ⟨hregs, fun hp => congrArg State.popped (hreset hp)⟩

end Sys2Proof.Machine

namespace Sys2Proof.Proofs
open Sys2Proof.Machine

/-- Settles O45: every event keeps the invariant, at the state with the event taken. -/
theorem stepKeepsInvariant : Obligations.StepKeepsInvariant := by
  unfold Obligations.StepKeepsInvariant
  intro s t hinv ht
  have hpop := popped_keeps_inv hinv
  obtain e | ⟨a, -, e⟩ | ⟨-, e⟩ | e := step_cases s
  · exact engineStep_keeps_inv hpop (e.symm.trans ht)
  · cases ht.symm.trans e; exact hostAccess_keeps_inv hpop a
  · cases ht.symm.trans e; exact assertReset_inv _
  · cases ht.symm.trans e; exact releaseReset_keeps_inv hpop

end Sys2Proof.Proofs
end

section
/-! # Safety along runs without reset -/
namespace Sys2Proof.Machine

/-! ### The frozen configuration -/

/-- What stays as it is from a state with LOCKED = 1 on (R26, R42, R76): LOCKED itself, the secret, the configuration, and
the count of entropy draws. -/
def SameConstruction (s t : State) : Prop :=
  t.status.locked = true ∧ t.secret = s.secret ∧ t.secretLen = s.secretLen ∧ t.stepSize = s.stepSize
    ∧ t.tol = s.tol ∧ t.randLen = s.randLen ∧ t.entropyDraws = s.entropyDraws

theorem SameConstruction.trans {s t u : State} (hst : SameConstruction s t) (htu : SameConstruction t u) :
    SameConstruction s u := by
  obtain ⟨-, h1, h2, h3, h4, h5, h6⟩ := hst
  obtain ⟨hl, k1, k2, k3, k4, k5, k6⟩ := htu
  exact ⟨hl, k1.trans h1, k2.trans h2, k3.trans h3, k4.trans h4, k5.trans h5, k6.trans h6⟩

theorem SameConstruction.refl {s : State} (hl : s.status.locked = true) : SameConstruction s s :=
  ⟨hl, rfl, rfl, rfl, rfl, rfl, rfl⟩

/-- R77, R78: the commands that write the secret or draw entropy fail once LOCKED = 1. -/
theorem Ends.sameConstruction {s t : State} {i : Instr} (he : Ends s i t) (hl : s.status.locked = true) :
    SameConstruction s t := by
  cases he with
  | entropyError _ hu | lock hu _ _ | gensec _ hu _ _ => exact absurd (hu.symm.trans hl) (by decide)
  | _ => simp [SameConstruction, hl]

/-- R42: a write that takes effect while LOCKED = 1 is not to a word of class RWL. -/
theorem writeWord_sameConstruction {s : State} (hl : s.status.locked = true) (r : WindowWord) (v : Word) :
    SameConstruction s (writeWord r v s) := by
  obtain ⟨-, -, e⟩ | ⟨-, -, e⟩ | ⟨-, e⟩ | ⟨-, e⟩ | ⟨-, e⟩ | ⟨-, -, -, e⟩ | ⟨ha, -, e⟩ := writeWord_cases r v s <;>
    rw [e]
  iterate 6 exact ⟨hl, rfl, rfl, rfl, rfl, rfl, rfl⟩
  have hr : r.access ≠ .rwl := fun hr => by simp [hr, hl] at ha
  obtain ⟨hz, htol, hrand, hlen, hsec⟩ := storeWord_config r v s hr
  obtain ⟨hl', -, -, -, -, hd⟩ := writeWord_frame r v s
  rw [e] at hl' hd
  exact ⟨hl'.trans hl, hsec, hlen, hz, htol, hrand, hd⟩

theorem hostAccess_sameConstruction {s : State} (hl : s.status.locked = true) (a : BusAccess) :
    SameConstruction s (hostAccess a s) := by
  obtain ⟨x, e⟩ | ⟨-, r, v, x, -, e⟩ := hostAccess_cases a s
  · rw [e]; exact ⟨hl, rfl, rfl, rfl, rfl, rfl, rfl⟩
  · rw [e]; exact writeWord_sameConstruction hl r v

theorem step_sameConstruction {s t : State} (hs : s.NoReset) (hl : s.status.locked = true) (h : step s = .next t) :
    SameConstruction s t := by
  have hpop : SameConstruction s s.popped := ⟨hl, rfl, rfl, rfl, rfl, rfl, rfl⟩
  obtain rfl | ⟨a, rfl⟩ | rfl | ⟨i, he⟩ := noReset_step_cases hs h
  · exact hpop
  · exact hpop.trans (hostAccess_sameConstruction (s := s.popped) hl a)
  · exact hpop
  · exact hpop.trans (he.sameConstruction hl)

/-! ### The clock -/

/-- An accepted time sample stays accepted, and TLAST is no smaller in `t` than in `s` (R40). -/
def ClockAdvances (s t : State) : Prop := t.tlastValid = true ∧ s.tlast.toNat ≤ t.tlast.toNat

theorem ClockAdvances.trans {s t u : State} (hst : ClockAdvances s t) (htu : ClockAdvances t u) : ClockAdvances s u :=
  ⟨htu.1, hst.2.trans htu.2⟩

/-- R112: a command writes TLAST only with a sample that is not smaller. -/
theorem Ends.clockAdvances {s t : State} {i : Instr} (he : Ends s i t) (hv : s.tlastValid = true) :
    ClockAdvances s t := by
  cases he with
  | totp _ _ hx | vtotp _ _ _ hx => exact ⟨rfl, hx.2 hv⟩
  | _ => simp [ClockAdvances, hv]

theorem step_clockAdvances {s t : State} (hs : s.NoReset) (hv : s.tlastValid = true) (h : step s = .next t) :
    ClockAdvances s t := by
  obtain rfl | ⟨a, rfl⟩ | rfl | ⟨i, he⟩ := noReset_step_cases hs h
  · exact ⟨hv, le_rfl⟩
  · obtain ⟨-, ht, htv, -, -, -⟩ := hostAccess_frame a s.popped
    exact ⟨htv.trans hv, by rw [ht]; exact le_rfl⟩
  · exact ⟨hv, le_rfl⟩
  · exact he.clockAdvances hv

end Sys2Proof.Machine

namespace Sys2Proof.Proofs
open Sys2Proof.Machine

/-- Settles O46, by induction on the number of steps: each leaves the construction of the first state. -/
theorem lockedConfigNeverChanges : Obligations.LockedConfigNeverChanges := by
  unfold Obligations.LockedConfigNeverChanges
  intro n s t hs hl hrun
  have hstep : ∀ u v : State, u.NoReset ∧ SameConstruction s u → step u = .next v → v.NoReset ∧ SameConstruction s v :=
    fun u v ⟨hn, hu⟩ h => ⟨noReset_step hn h, hu.trans (step_sameConstruction hn hu.1 h)⟩
  exact (run_keeps hstep n ⟨hs, .refl hl⟩ hrun).2

/-- Settles O47, by induction on the number of steps: each leaves TLAST or writes an accepted sample. -/
theorem tlastNeverDecreases : Obligations.TlastNeverDecreases := by
  unfold Obligations.TlastNeverDecreases
  intro n s t hs hv hrun
  have hstep : ∀ u v : State, u.NoReset ∧ ClockAdvances s u → step u = .next v → v.NoReset ∧ ClockAdvances s v :=
    fun u v ⟨hn, hu⟩ h => ⟨noReset_step hn h, hu.trans (step_clockAdvances hn hu.1 h)⟩
  exact (run_keeps hstep n ⟨hs, hv, le_rfl⟩ hrun).2

end Sys2Proof.Proofs
end

section
/-! # The end of a command: its flags, and what an access in flight carries over -/
namespace Sys2Proof.Machine

/-! ### Flags -/

/-- R39, R20, R75: STATUS after the end of a command. -/
theorem Ends.flags {s t : State} {i : Instr} (he : Ends s i t) :
    t.status.busy = false ∧ t.status.done = true
      ∧ (t.status.matched = true → (i = .vtotp ∨ i = .vhotp) ∧ t.status.err = .ok)
      ∧ (t.status.locked = true ↔ s.status.locked = true ∨ ((i = .lock ∨ i = .gensec) ∧ t.status.err = .ok))
      ∧ t.status.wbusy = s.status.wbusy ∧ t.status.wlock = s.status.wlock := by
  cases he with
  | error _ hne => simp [hne]
  | _ => simp

/-! ### A command in flight -/

/-- `s` with the fields that the host can change while a command is pending as they are in `h`: CTRL.IE, the three W1C bits
of STATUS, and the record of the access (R41). -/
def inFlight (h s : State) : State :=
  { s with
    schedule := h.schedule, lastResp := h.lastResp, ie := h.ie
    status := { s.status with done := h.status.done, wbusy := h.status.wbusy, wlock := h.status.wlock } }

/-- The same for the state after the command has ended, which has its own DONE (R39). -/
def landed (h t : State) : State :=
  { t with
    schedule := h.schedule, lastResp := h.lastResp, ie := h.ie
    status := { t.status with wbusy := h.status.wbusy, wlock := h.status.wlock } }

theorem afterEntropy_inFlight (h s : State) (n : Nat) :
    afterEntropy n (inFlight h s) = inFlight h (afterEntropy n s) := by
  unfold afterEntropy
  split <;> rfl

theorem inFlight_randLen (h s : State) : (inFlight h s).randLen = s.randLen := rfl

theorem entropyBytes_inFlight (h s : State) (n : Nat) : entropyBytes n (inFlight h s) = entropyBytes n s := rfl

/-- R39: a command reads no field that the host can change in flight, and writes none of them but DONE. Every check of a
command, and every write of it, is the same at the two states by definition. -/
theorem exec_inFlight (h s : State) (i : Instr) :
    ∃ t, exec i s = .next t ∧ exec i (inFlight h s) = .next (landed h t) := by
  cases i with
  | gensec =>
    refine ⟨_, rfl, ?_⟩
    simp only [exec, execGensec, inFlight_randLen, entropyBytes_inFlight, afterEntropy_inFlight, apply_ite (landed h)]
    cases entropyBytes s.randLen.toNat s <;> rfl
  | trunc | pack64 => exact ⟨_, rfl, rfl⟩
  | _ =>
    refine ⟨_, rfl, ?_⟩
    simp only [exec, execB32enc, execLock, execHotp, execTotp, execTotpS, execVtotp, execVhotp, apply_ite (landed h)]
    rfl

/-- R41: all that a write can do while a command is pending. -/
theorem writeWord_inFlight {s : State} (hb : s.status.busy = true) (r : WindowWord) (v : Word) :
    writeWord r v s = inFlight (writeWord r v s) s := by
  obtain ⟨-, hb', -⟩ | ⟨-, -, e⟩ | ⟨-, e⟩ | ⟨-, e⟩ | ⟨-, e⟩ | ⟨-, hb', -⟩ | ⟨-, hb', -⟩ := writeWord_cases r v s
  · exact absurd (hb.symm.trans hb') (by decide)
  · rw [e]; rfl
  · rw [e]; rfl
  · rw [e]; rfl
  · rw [e]; rfl
  · exact absurd (hb.symm.trans hb') (by decide)
  · exact absurd (hb.symm.trans hb') (by decide)

theorem hostAccess_inFlight {s : State} (hb : s.status.busy = true) (a : BusAccess) :
    hostAccess a s = inFlight (hostAccess a s) s := by
  obtain ⟨x, e⟩ | ⟨-, r, v, x, -, e⟩ := hostAccess_cases a s
  · rw [e]; rfl
  · rw [e]
    exact congrArg (fun u : State => { u with lastResp := x }) (writeWord_inFlight hb r v)

end Sys2Proof.Machine

namespace Sys2Proof.Proofs
open Sys2Proof.Machine

/-- Settles O8, by the ends of a command. -/
theorem completionFlags : Obligations.CompletionFlags := by
  unfold Obligations.CompletionFlags
  intro i s
  obtain ⟨t, ht, he⟩ := exec_ends i s
  exact ⟨t, ht, he.flags⟩

/-- Settles O40: the access changes no field that the command reads. -/
theorem operandsFixedInFlight : Obligations.OperandsFixedInFlight := by
  unfold Obligations.OperandsFixedInFlight
  intro i s s' t a rest _ hb hs hstep ht
  cases hstep.symm.trans (access_step hs)
  have hin : hostAccess a s.popped = inFlight (hostAccess a s.popped) s := hostAccess_inFlight (s := s.popped) hb a
  have hq : (hostAccess a s.popped).schedule = rest := by
    obtain ⟨-, -, -, -, hq, -⟩ := hostAccess_frame a s.popped
    rw [hq, popped_schedule, hs, List.tail_cons]
  obtain ⟨u, hu, hu'⟩ := exec_inFlight (hostAccess a s.popped) s i
  cases ht.symm.trans hu
  rw [hin, hu', landed, hq, ← hin]

end Sys2Proof.Proofs
end

section
/-! # The host's turn and the engine's turn -/
namespace Sys2Proof.Machine

/-! ### Dropped writes -/

/-- R41: BUSY drops a write to CMD and to a word of class RW or RWL. -/
theorem writeWord_of_busy {r : WindowWord} (v : Word) {s : State} (hr : r = .cmd ∨ r.HostWritable ∨ r.LockProtected)
    (hb : s.status.busy = true) : writeWord r v s = dropBusy s := by
  have ha : r.access = .wo ∨ r.access = .rw ∨ r.access = .rwl := by
    obtain rfl | h | h := hr
    · exact .inl rfl
    · exact .inr (.inl (access_of_hostWritable h))
    · exact .inr (.inr (access_of_lockProtected h))
  obtain ha | ha | ha := ha <;> simp only [writeWord, ha, hb, if_true]

/-- R42: LOCKED drops a write to a word of class RWL. -/
theorem writeWord_of_locked {r : WindowWord} (v : Word) {s : State} (hr : r.LockProtected)
    (hb : s.status.busy = false) (hl : s.status.locked = true) : writeWord r v s = dropLocked s := by
  simp [writeWord, access_of_lockProtected hr, hb, hl]

/-- R38: a write to CMD with BUSY = 0 issues. -/
theorem writeWord_cmd_of_idle (w : Word) {s : State} (hb : s.status.busy = false) :
    writeWord .cmd w s = issue w s := by
  simp [writeWord, WindowWord.access, hb]

/-- R45: the words that R42 names. -/
theorem lockProtected_of_offset {off : Nat}
    (h : off = 0x00C ∨ off = 0x010 ∨ off = 0x014 ∨ off = 0x018 ∨ (0x100 ≤ off ∧ off < 0x140 ∧ off % 4 = 0)) :
    ∃ r, windowWord off = some r ∧ r.LockProtected := by
  obtain rfl | rfl | rfl | rfl | ⟨hlo, hhi, hal⟩ := h
  · exact ⟨.stepSize, rfl, .inl rfl⟩
  · exact ⟨.tol, rfl, .inr (.inl rfl)⟩
  · exact ⟨.randLen, rfl, .inr (.inr (.inl rfl))⟩
  · exact ⟨.secretLen, rfl, .inr (.inr (.inr (.inl rfl)))⟩
  · refine ⟨.secret ⟨(off - 0x100) / 4, by omega⟩, ?_, .inr (.inr (.inr (.inr ⟨_, rfl⟩)))⟩
    rw [windowWord, if_neg (by omega), dif_neg (by omega), dif_neg (by omega), dif_neg (by omega), dif_neg (by omega),
      dif_pos ⟨hlo, hhi⟩]

/-- The host never sees the hidden registers (R16, R40). -/
theorem readWord_of_hidden (s : State) (w : Word) (x : BitVec 64) (b : Bool) (r : WindowWord) :
    readWord { s with pend := w, tlast := x, tlastValid := b } r = readWord s r := by
  cases r <;> rfl

/-! ### `withFetchWord` -/

theorem engineTurn_withFetchWord (s : State) (nbits w : Nat) : (s.withFetchWord nbits w).EngineTurn :=
  ⟨rfl, rfl, .inl rfl⟩

/-- A number that the opcode table reads as a command decodes to it once it stands in PEND (R57). -/
theorem decode_pend_withFetchWord {s : State} {nbits w : Nat} {i : Instr} (h : decodeTableWord nbits w = some i) :
    decode (s.withFetchWord nbits w).pend = .instr i := by
  change decode (BitVec.ofNat 32 (w % 2 ^ nbits)) = .instr i
  rw [decodeTableWord] at h
  split at h
  · obtain ⟨j, hj⟩ | ⟨why, hw, -⟩ := decoded_cases (decode (BitVec.ofNat 32 (w % 2 ^ nbits)))
    · rw [hj] at h ⊢
      exact congrArg _ (Option.some.inj h)
    · rw [hw] at h; cases h
  · cases h

theorem engineTurn_instr {s : State} {i : Instr} (h : s.EngineTurn) (hd : decode s.pend = .instr i) :
    step s = exec i s.popped := by
  rw [engineTurn_step h, hd]

end Sys2Proof.Machine

namespace Sys2Proof.Proofs
open Sys2Proof.Machine

/-- Settles O5: the two cases of a write to CMD; the illegal word then meets the engine's turn. -/
theorem cmdWriteIssues : Obligations.CmdWriteIssues := by
  unfold Obligations.CmdWriteIssues
  intro s w rest h
  have hstep := hostTurn_write h (r := .cmd) rfl
  have hissue : s.status.busy = false →
      step s = .next (respond true none (issue w { s with schedule := rest })) := fun hb => by
    rw [hstep, writeWord_cmd_of_idle w (s := { s with schedule := rest }) hb]
  refine ⟨hissue, fun hb => ?_, fun hb hd hrest => ⟨_, _, hissue hb, engineTurn_illegal ?_ hd, rfl⟩⟩
  · rw [hstep, writeWord_of_busy w (.inl rfl) (s := { s with schedule := rest }) hb]
    rfl
  · exact ⟨h.1, rfl, .inl hrest⟩

/-- Settles O37, class by class. -/
theorem writesWhileBusyDropped : Obligations.WritesWhileBusyDropped := by
  unfold Obligations.WritesWhileBusyDropped
  rintro s off r op rest h hr hb
  refine ⟨?_, ?_, ?_, ?_⟩
  · rintro v rfl hclass
    rw [hostTurn_write h hr, writeWord_of_busy v hclass (s := { s with schedule := rest }) hb]
    rfl
  · rintro v rfl rfl
    exact hostTurn_write h hr
  · rintro v rfl rfl
    exact hostTurn_write h hr
  · rintro rfl
    rw [hostTurn_read h hr]
    cases r <;> rfl

/-- Settles O38: BUSY is asked first, then LOCKED. -/
theorem lockedWritesDropped : Obligations.LockedWritesDropped := by
  unfold Obligations.LockedWritesDropped
  intro s off v rest h hoff hl
  obtain ⟨r, hr, hclass⟩ := lockProtected_of_offset hoff
  refine ⟨fun hb => ?_, fun hb => ?_⟩
  · rw [hostTurn_write h hr, writeWord_of_locked v hclass (s := { s with schedule := rest }) hb hl]
    rfl
  · rw [hostTurn_write h hr, writeWord_of_busy v (.inr (.inr hclass)) (s := { s with schedule := rest }) hb]
    rfl

/-- Settles O39: no word shows a hidden register, and no access writes the clock's. -/
theorem hiddenStateUnreachable : Obligations.HiddenStateUnreachable := by
  unfold Obligations.HiddenStateUnreachable
  refine ⟨readWord_of_hidden, fun s t a rest hs ht => ?_⟩
  cases ht.symm.trans (access_step hs)
  obtain ⟨-, htlast, hvalid, -, -, -⟩ := hostAccess_frame a s.popped
  exact ⟨htlast, hvalid⟩

/-- Settles O4, by whose event the step is. -/
theorem stepRunsDecodedCommand : Obligations.StepRunsDecodedCommand := by
  unfold Obligations.StepRunsDecodedCommand
  refine ⟨fun s i h hd => engineTurn_instr h hd, fun s h hidle => ?_, fun s a rest h => access_step h, fun s w i h => ?_⟩
  · rw [engineFirst_step h]
    exact engineStep_of_idle hidle
  · rw [engineTurn_instr (engineTurn_withFetchWord s 32 w) (decode_pend_withFetchWord h)]
    exact congrArg (exec i) (popped_of_nil rfl)

end Sys2Proof.Proofs
end

section
/-! # The register window: its map, the lanes of a buffer word, and what a read and a write of a word do -/
namespace Sys2Proof.Machine

/-! ### The map -/

/-- R45: the gaps of the map, and everything past its last word. -/
theorem windowWord_of_unmapped {off : Nat} (h : off = 0x04C ∨ 0x068 ≤ off ∧ off ≤ 0x06F ∨ 0x084 ≤ off ∧ off ≤ 0x0FF
    ∨ 0x168 ≤ off ∧ off ≤ 0x17F ∨ 0x1C0 ≤ off) : windowWord off = none := by
  obtain hlo | hhi := Nat.lt_or_ge off 0x1C0
  · have hwf : busAccessWf 4 off = false := by
      simp [busAccessWf, mappedRanges]
      omega
    simpa [hwf] using windowWord_isSome off (by omega)
  · exact windowWord_none off hhi

/-! ### Lanes of a buffer word -/

theorem laneOf_toNat (v : Word) (k : Nat) : (laneOf v k).toNat = v.toNat / 2 ^ (8 * k) % 256 := by
  simp [laneOf, Nat.shiftRight_eq_div_pow]

theorem bufWord_toNat {m : Nat} (b : Vector Byte (4 * m)) (j : Fin m) :
    (bufWord b j).toNat = b[4 * j.val].toNat + b[4 * j.val + 1].toNat * 2 ^ 8
      + b[4 * j.val + 2].toNat * 2 ^ 16 + b[4 * j.val + 3].toNat * 2 ^ 24 := by
  have h := be32_toNat b[4 * j.val + 3] b[4 * j.val + 2] b[4 * j.val + 1] b[4 * j.val]
  rw [be32] at h
  rw [bufWord, h]
  omega

theorem setBufWord_getElem {m : Nat} (b : Vector Byte (4 * m)) (j : Fin m) (v : Word) (k : Nat) (hk : k < 4 * m) :
    (setBufWord b j v)[k] = if k / 4 = j.val then laneOf v (k % 4) else b[k] := by
  simp [setBufWord]

/-- R46, R50: lane `l` of the word that a read returns is the buffer's byte `4 j + l`. -/
theorem bufWord_lane {m : Nat} (b : Vector Byte (4 * m)) (j : Fin m) (l : Fin 4) :
    (bufWord b j).toNat / 2 ^ (8 * l.val) % 256 = b[4 * j.val + l.val].toNat := by
  have h0 := b[4 * j.val].isLt
  have h1 := b[4 * j.val + 1].isLt
  have h2 := b[4 * j.val + 2].isLt
  have h3 := b[4 * j.val + 3].isLt
  rw [bufWord_toNat]
  match l with
  | 0 | 1 | 2 | 3 => simp; omega

/-! ### Reads -/

/-- R47: the two halves of a 64-bit register. -/
theorem halves_toNat (c : BitVec 64) : (highHalf c).toNat * 2 ^ 32 + (lowHalf c).toNat = c.toNat := by
  have hc := c.isLt
  simp only [highHalf, lowHalf, BitVec.extractLsb'_toNat, Nat.shiftRight_eq_div_pow]
  omega

@[simp] theorem readWord_schedule (s : State) (rest : List Event) (r : WindowWord) :
    readWord { s with schedule := rest } r = readWord s r := by
  cases r <;> rfl

@[simp] theorem readWord_respond (okay : Bool) (data : Option Word) (s : State) (r : WindowWord) :
    readWord (respond okay data s) r = readWord s r := by
  cases r <;> rfl

/-! ### Writes -/

theorem writeWord_of_readOnly {r : WindowWord} (v : Word) (s : State) (hr : r.ReadOnly) : writeWord r v s = s := by
  simp only [writeWord, access_of_readOnly hr]

/-- R51 case 7: neither BUSY nor LOCKED drops the write. -/
theorem writeWord_of_stored {r : WindowWord} (v : Word) {s : State}
    (hr : r.HostWritable ∨ (r.LockProtected ∧ s.status.locked = false)) (hb : s.status.busy = false) :
    writeWord r v s = storeWord r v s := by
  obtain hr | ⟨hr, hl⟩ := hr
  · simp [writeWord, access_of_hostWritable hr, hb]
  · simp [writeWord, access_of_lockProtected hr, hb, hl]

end Sys2Proof.Machine

namespace Sys2Proof.Proofs
open Sys2Proof.Machine

/-- Settles O32: each row of the map, the gaps, and the class of each word. -/
theorem registerMap : Obligations.RegisterMap := by
  unfold Obligations.RegisterMap
  refine ⟨by decide, by decide, by decide, by decide, by decide, fun _ h => windowWord_of_unmapped h, fun r => ?_⟩
  refine ⟨?_, ?_, ?_, ⟨?_, access_of_readOnly⟩, ⟨?_, access_of_lockProtected⟩, ⟨?_, access_of_hostWritable⟩⟩
  all_goals
    cases r <;> simp [WindowWord.access, WindowWord.ReadOnly, WindowWord.LockProtected, WindowWord.HostWritable]

/-- Settles O33: `busAccessWf` is the map's own domain. -/
theorem busErrorsHaveNoEffect : Obligations.BusErrorsHaveNoEffect := by
  unfold Obligations.BusErrorsHaveNoEffect
  intro s width off op rest h hoff
  refine ⟨fun hwf => ?_, fun hwf => ?_⟩
  · rw [hostTurn_step h hoff, windowAccess_error width off op _ hoff hwf]
    rfl
  · obtain ⟨rfl, r, hr⟩ := windowAccess_ok width off hoff hwf
    cases op with
    | read => exact ⟨_, _, hostTurn_read h hr, rfl⟩
    | write v => exact ⟨_, _, hostTurn_write h hr, rfl⟩

/-- Settles O34: the step of a read, then the number that each word shows. -/
theorem readsReturnFieldsWithoutEffect : Obligations.ReadsReturnFieldsWithoutEffect := by
  unfold Obligations.ReadsReturnFieldsWithoutEffect
  refine ⟨fun s off r rest h hr => ?_, fun s => ?_, fun s j l => ⟨bufWord_lane _ j l, bufWord_lane _ j l⟩,
    fun s j l => bufWord_lane _ j l, fun s j l => bufWord_lane _ j l,
    fun s j l => ⟨bufWord_lane _ j l, bufWord_lane _ j l, bufWord_lane _ j l⟩⟩
  · rw [hostTurn_read h hr, readWord_schedule]
    rfl
  · have hfield {n : Nat} (x : BitVec n) (hn : n ≤ 32) : (x.setWidth 32).toNat = x.toNat :=
      BitVec.toNat_setWidth_of_le hn
    have hie : (readWord s .ctrl).toNat = s.ie.toNat := (hfield _ (by decide)).trans (BitVec.toNat_ofBool s.ie)
    refine ⟨rfl, hie, rfl, hfield _ ?_, hfield _ ?_, hfield _ ?_, hfield _ ?_, hfield _ ?_, hfield _ ?_, hfield _ ?_,
      hfield _ ?_, hfield _ ?_, halves_toNat _, halves_toNat _, halves_toNat _, status_word_toNat _⟩
    all_goals decide

/-- Settles O35, lane by lane. -/
theorem bufferWordLanes : Obligations.BufferWordLanes := by
  unfold Obligations.BufferWordLanes
  intro m b j v
  refine ⟨bufWord_toNat b j, fun l => ?_, fun k hk => ?_⟩
  · have hl : (4 * j.val + l.val) % 4 = l.val := by omega
    rw [setBufWord_getElem, if_pos (by omega), laneOf_toNat, hl]
  · rw [setBufWord_getElem, if_neg hk]

/-- Settles O36: R51's cases, in their order. -/
theorem writeCases : Obligations.WriteCases := by
  unfold Obligations.WriteCases
  intro s off r v rest h hr
  have hstep := hostTurn_write h hr
  refine ⟨?_, ?_, ?_, ?_, fun hclass => ?_, fun hclass hb => ?_, fun hclass hb hl => ?_, fun hclass hb => ?_⟩
  · rintro rfl hb
    rw [hstep, writeWord_cmd_of_idle v (s := { s with schedule := rest }) hb]
    rfl
  · rintro rfl hb
    rw [hstep, writeWord_of_busy v (.inl rfl) (s := { s with schedule := rest }) hb]
    rfl
  · rintro rfl
    exact hstep
  · rintro rfl
    exact hstep
  · rw [hstep, writeWord_of_readOnly v _ hclass]
    rfl
  · rw [hstep, writeWord_of_busy v (.inr hclass) (s := { s with schedule := rest }) hb]
    rfl
  · rw [hstep, writeWord_of_locked v hclass (s := { s with schedule := rest }) hb hl]
    rfl
  · rw [writeWord_of_stored v (s := { s with schedule := rest }) hclass hb] at hstep
    have haccess : r.access = .rw ∨ r.access = .rwl :=
      hclass.imp access_of_hostWritable fun hprot => access_of_lockProtected hprot.1
    refine ⟨_, hstep, ?_, fun r' hne => ?_, ?_⟩
    · rw [readWord_respond, readWord_storeWord_same r v _ haccess]
    · rw [readWord_respond, readWord_storeWord_other r r' v _ hne, readWord_schedule]
    · simp [storeWord_frame]

end Sys2Proof.Proofs
end

section
/-! # The decoder and the encoder, and the words that are illegal -/
namespace Sys2Proof

/-! ### The fields of a word (R57) -/

theorem cmdFields_op_toNat (w : Word) : (cmdFields w).op.toNat = w.toNat % 16 := by
  simp [cmdFields, BitVec.extractLsb'_toNat]

theorem cmdFields_res_toNat (w : Word) : (cmdFields w).res.toNat = w.toNat / 32 := by
  have hw := w.isLt
  simp only [cmdFields, BitVec.extractLsb'_toNat, Nat.shiftRight_eq_div_pow]
  omega

/-- A word is its three fields: the layout of R57 leaves out no bit. -/
theorem wordOfFields_cmdFields (w : Word) : wordOfFields (cmdFields w) = w := by
  apply BitVec.eq_of_getLsbD_eq
  intro k hk
  simp only [wordOfFields, cmdFields, BitVec.getLsbD_append, BitVec.getLsbD_extractLsb', BitVec.getLsbD_ofBool]
  obtain hop | rfl | hres : k < 4 ∨ k = 4 ∨ 4 < k := by omega
  · simp [hop]
  · simp
  · have hs : ¬ k - 4 < 1 := by omega
    have hrange : k - 4 - 1 < 27 := by omega
    have hpos : 5 + (k - 4 - 1) = k := by omega
    simp [hs, hrange, hpos, hres.not_gt]

/-! ### The decoder, branch by branch (R61) -/

theorem decode_eq_instr_iff (w : Word) (i : Instr) :
    decode w = .instr i ↔ (cmdFields w).res = 0#27 ∧ ((cmdFields w).s = true → (cmdFields w).op = 7#4)
      ∧ decodeOp (cmdFields w).op.toNat (cmdFields w).s = .instr i := by
  simp only [decode]
  split_ifs with hres hs
  · simp [hres]
  · simp [hs]
  · simp_all

theorem decode_toOption_eq_none_iff (w : Word) :
    (decode w).toOption = none ↔ (cmdFields w).res ≠ 0#27 ∨ ((cmdFields w).s = true ∧ (cmdFields w).op ≠ 7#4)
      ∨ (decodeOp (cmdFields w).op.toNat (cmdFields w).s).toOption = none := by
  simp only [decode]
  split_ifs with hres hs
  · simp [hres, Decoded.toOption]
  · simp [hs, Decoded.toOption]
  · simp [hres, hs]

/-- The reserved OP values (R59). -/
theorem decodeOp_toOption_eq_none_iff {op : Nat} (hop : op < 16) (s : Bool) :
    (decodeOp op s).toOption = none ↔ op = 0 ∨ 10 ≤ op := by
  have h : ∀ (op : Fin 16) (s : Bool), (decodeOp op.val s).toOption = none ↔ op.val = 0 ∨ 10 ≤ op.val := by decide
  exact h ⟨op, hop⟩ s

/-- R59's table, read from OP and S to the command, is the encoder's. Only TOTP's row (OP = 0x7) has a command for each S;
in the others S is clear. -/
theorem encodeFields_of_decodeOp {n : Nat} {s : Bool} {i : Instr} (hs : s = true → n = 7)
    (h : decodeOp n s = .instr i) : encodeFields i = ⟨BitVec.ofNat 4 n, s, 0#27⟩ := by
  unfold decodeOp at h
  split at h
  case h_7 => cases s <;> cases h <;> rfl
  case h_10 => cases h
  all_goals
    obtain rfl : s = false := Bool.eq_false_iff.mpr fun hs' => absurd (hs hs') (by decide)
    cases h
    rfl

/-! ### Decoding against encoding -/

theorem wordRoundTrip (i : Instr) : Laws.WordRoundTrip.Statement i :=
  match i with
  | .b32enc => Laws.WordRoundTrip.b32enc
  | .lock => Laws.WordRoundTrip.lock
  | .gensec => Laws.WordRoundTrip.gensec
  | .trunc => Laws.WordRoundTrip.trunc
  | .hotp => Laws.WordRoundTrip.hotp
  | .pack64 => Laws.WordRoundTrip.pack64
  | .totp => Laws.WordRoundTrip.totp
  | .totpS => Laws.WordRoundTrip.totpS
  | .vtotp => Laws.WordRoundTrip.vtotp
  | .vhotp => Laws.WordRoundTrip.vhotp

theorem decode_encode (i : Instr) : decode (encode i) = .instr i := by
  obtain ⟨-, hdecode, -, -⟩ := wordRoundTrip i
  exact hdecode

/-- The fields of a word that decodes to a command are the command's. -/
theorem cmdFields_of_decode {w : Word} {i : Instr} (h : decode w = .instr i) : cmdFields w = encodeFields i := by
  obtain ⟨hres, hs, hop⟩ := (decode_eq_instr_iff w i).mp h
  have hfields := encodeFields_of_decodeOp (fun hs' => congrArg BitVec.toNat (hs hs')) hop
  rw [BitVec.ofNat_toNat, BitVec.setWidth_eq, ← hres] at hfields
  exact hfields.symm

/-- R60, on the word as a number. -/
theorem decode_illegal_iff (w : Word) :
    (decode w).toOption = none ↔
      (w.toNat % 16 = 0 ∨ 10 ≤ w.toNat % 16) ∨ w.toNat / 32 ≠ 0 ∨ (w.getLsbD 4 = true ∧ w.toNat % 16 ≠ 7) := by
  have hop : (cmdFields w).op = 7#4 ↔ w.toNat % 16 = 7 := by
    rw [← cmdFields_op_toNat, ← BitVec.toNat_inj]; rfl
  have hres : (cmdFields w).res = 0#27 ↔ w.toNat / 32 = 0 := by
    rw [← cmdFields_res_toNat, ← BitVec.toNat_inj]; rfl
  have hs : (cmdFields w).s = w.getLsbD 4 := rfl
  rw [decode_toOption_eq_none_iff, decodeOp_toOption_eq_none_iff (cmdFields w).op.isLt, cmdFields_op_toNat, Ne, Ne, hop,
    hres, hs]
  tauto

end Sys2Proof

namespace Sys2Proof.Proofs
open Sys2Proof.Machine

/-- Settles O1: one way the word is put together again from its fields, the other way is the table's, row by row. -/
theorem decodeAndEncodeAgree : Obligations.DecodeAndEncodeAgree := by
  unfold Obligations.DecodeAndEncodeAgree
  intro w i
  constructor
  · intro h
    rw [encode, ← cmdFields_of_decode h, wordOfFields_cmdFields]
  · rintro rfl
    exact decode_encode i

/-- Settles O3: R60 on numbers; issue is the write to CMD of any word, completion the engine's turn. -/
theorem illegalWordsRaiseIllegalCmd : Obligations.IllegalWordsRaiseIllegalCmd := by
  unfold Obligations.IllegalWordsRaiseIllegalCmd
  refine ⟨decode_illegal_iff, fun s w rest h hb _ => ?_, fun s h hd => engineTurn_illegal h hd, rfl⟩
  obtain ⟨hissue, -, -⟩ := cmdWriteIssues s w rest h
  exact hissue hb

/-- Settles O2: the literals are the encoder's words, and a reserved OP value is illegal by R60. -/
theorem opcodeMapWords : Obligations.OpcodeMapWords := by
  unfold Obligations.OpcodeMapWords
  refine ⟨decode_encode .b32enc, decode_encode .lock, decode_encode .gensec, decode_encode .trunc, decode_encode .hotp,
    decode_encode .pack64, decode_encode .totp, decode_encode .totpS, decode_encode .vtotp, decode_encode .vhotp,
    fun op hop => ?_⟩
  rw [decode_illegal_iff, BitVec.toNat_ofNat]
  omega

end Sys2Proof.Proofs
end

section
/-! # What a command reads

Run from two states that agree on the "reads" column of R58, a command takes the same branch of its checks in both. -/
namespace Sys2Proof.Machine

/-! ### Operands -/

theorem secretKey_congr {s s' : State} (h : SameSecret s s') : secretKey s = secretKey s' := by
  obtain ⟨hlen, hstring⟩ := h
  unfold secretString at hstring
  rw [secretKey, secretKey, hstring, hlen]

theorem clockOk_congr {s s' : State} (h : SameClock s s') : clockOk s = clockOk s' := by
  obtain ⟨hsample, htlast, hvalid⟩ := h
  rw [clockOk, clockOk, hsample, htlast, hvalid]

theorem codeEq_congr {s s' : State} (h : SamePresented s s') (digits : Vector Byte 6) :
    codeEq s digits = codeEq s' digits := by
  obtain ⟨hlen, hbytes⟩ := h
  simp only [codeEq, hlen, hbytes]

theorem windowMatch_congr {s s' : State} (hkey : SameSecret s s') (htol : s.tol = s'.tol) (hcode : SamePresented s s')
    (st : BitVec 64) : windowMatch s st = windowMatch s' st := by
  simp only [windowMatch, secretKey_congr hkey, htol, codeEq_congr hcode]

theorem entropyBytes_congr {s s' : State} (h : nextEntropy s = nextEntropy s') (n : Nat) :
    entropyBytes n s = entropyBytes n s' := by
  rw [entropyBytes, entropyBytes, h]

/-! ### Results -/

/-- The two ends of the command have the same ERR and MATCH and, without error, the same values in what R58 lists as its
writes. -/
def SameResults (i : Instr) (t t' : State) : Prop :=
  t.status.err = t'.status.err ∧ t.status.matched = t'.status.matched ∧ (t.status.err = .ok → SameWrites i t t')

theorem SameResults.error {i : Instr} {e : ErrCode} (he : e ≠ .ok) (u u' : State) :
    SameResults i (raiseError e u) (raiseError e u') :=
  ⟨rfl, rfl, fun h => absurd h he⟩

theorem SameResults.ok {i : Instr} {m m' : Bool} {u u' : State} (hm : m = m')
    (h : SameWrites i (complete m u) (complete m' u')) : SameResults i (complete m u) (complete m' u') :=
  ⟨rfl, hm, fun _ => h⟩

/-- A check that asks the same in both states and raises an error leaves the branches behind it to compare. -/
theorem SameResults.check {i : Instr} {c c' : Prop} [Decidable c] [Decidable c'] {e : ErrCode} {u u' t t' : State}
    (hc : c ↔ c') (h : SameResults i t t') (he : e ≠ .ok := by decide) :
    SameResults i (if c then raiseError e u else t) (if c' then raiseError e u' else t') := by
  by_cases hcase : c
  · rw [if_pos hcase, if_pos (hc.mp hcase)]
    exact .error he u u'
  · rwa [if_neg hcase, if_neg (mt hc.mpr hcase)]

theorem sameCode_of_writeCode {c c' : TruncResult} (h : c = c') (u u' : State) :
    SameCode (writeCode c u) (writeCode c' u') := by
  subst h
  exact ⟨rfl, rfl, rfl⟩

/-- R58: equal reads give equal results. Each `check` is a check of the command, in its order. -/
theorem exec_sameResults {i : Instr} {s s' : State} (h : SameReads i s s') :
    ∃ t t', exec i s = .next t ∧ exec i s' = .next t' ∧ SameResults i t t' := by
  cases i with
  | b32enc =>
    obtain ⟨hlen, hbytes⟩ := h
    have hin : base32 (inputBytes s) = base32 (inputBytes s') := congrArg base32 hbytes
    exact ⟨_, _, rfl, rfl, .check (by rw [hlen]) <|
      .ok rfl ⟨congrArg (fillBuf 64) hin, congrArg (fun b : List Byte => BitVec.ofNat 7 b.length) hin⟩⟩
  | lock =>
    obtain ⟨hl, hz, hlen⟩ := h
    exact ⟨_, _, rfl, rfl, .check (by rw [hl]) <| .check (by rw [hz]) <| .check (by rw [hlen]) <| .ok rfl rfl⟩
  | gensec =>
    obtain ⟨hl, hz, hlen, hport⟩ := h
    refine ⟨_, _, rfl, rfl, .check (by rw [hl]) <| .check (by rw [hz]) <| .check (by rw [hlen]) ?_⟩
    rw [← hlen, ← entropyBytes_congr hport]
    cases entropyBytes s.randLen.toNat s with
    | none => exact .error (by decide) _ _
    | some b => exact .ok rfl ⟨rfl, rfl, rfl⟩
  | trunc => exact ⟨_, _, rfl, rfl, .ok rfl (sameCode_of_writeCode (congrArg truncDigest h) s s')⟩
  | hotp =>
    obtain ⟨hl, hkey, hlen, hctrb⟩ := h
    exact ⟨_, _, rfl, rfl, .check (by rw [hl]) <| .check (by rw [hlen]) <|
      .ok rfl (sameCode_of_writeCode (by rw [secretKey_congr hkey, hctrb]) s s')⟩
  | pack64 => exact ⟨_, _, rfl, rfl, .ok rfl ⟨congrArg pack64 h, rfl⟩⟩
  | totp =>
    obtain ⟨hl, hkey, hz, hclock⟩ := h
    have ⟨hsample, _, _⟩ := hclock
    have hstep : curStep (nextTime s).secs s.stepSize = curStep (nextTime s').secs s'.stepSize := by rw [hsample, hz]
    exact ⟨_, _, rfl, rfl, .check (by rw [hl]) <| .check (by rw [clockOk_congr hclock]) <|
      .ok rfl ⟨sameCode_of_writeCode (by rw [secretKey_congr hkey, hstep]) (drawTime s) (drawTime s'), hstep,
        congrArg TimeSample.secs hsample, rfl⟩⟩
  | totpS =>
    obtain ⟨hl, hkey, hstep⟩ := h
    exact ⟨_, _, rfl, rfl, .check (by rw [hl]) <|
      .ok rfl ⟨sameCode_of_writeCode (by rw [secretKey_congr hkey, hstep]) s s', hstep⟩⟩
  | vtotp =>
    obtain ⟨hl, hkey, hz, htol, hcode, hclock⟩ := h
    have ⟨hsample, _, _⟩ := hclock
    have hstep : curStep (nextTime s).secs s.stepSize = curStep (nextTime s').secs s'.stepSize := by rw [hsample, hz]
    exact ⟨_, _, rfl, rfl, .check (by rw [hl]) <| .check (by rw [clockOk_congr hclock]) <|
      .ok (by rw [windowMatch_congr hkey htol hcode, hstep]) ⟨hstep, congrArg TimeSample.secs hsample, rfl⟩⟩
  | vhotp =>
    obtain ⟨hl, hkey, hlen, hctrb, hcode⟩ := h
    exact ⟨_, _, rfl, rfl, .check (by rw [hl]) <| .check (by rw [hlen]) <|
      .ok (by rw [codeEq_congr hcode, secretKey_congr hkey, hctrb]) trivial⟩

end Sys2Proof.Machine

namespace Sys2Proof.Proofs
open Sys2Proof.Machine

/-- Settles O31, check by check of the command (`exec_sameResults`). -/
theorem commandsReadOnlyTheirOperands : Obligations.CommandsReadOnlyTheirOperands := by
  unfold Obligations.CommandsReadOnlyTheirOperands
  intro i s s' t t' h ht ht'
  obtain ⟨u, u', hu, hu', hsame⟩ := exec_sameResults h
  cases ht.symm.trans hu
  cases ht'.symm.trans hu'
  exact hsame

end Sys2Proof.Proofs
end

section
/-! # Base32 as a number

The bit string of R65 is the link between the two readings: its first `8 k` bits write the number of the first `k` bytes,
its first `5 k` bits the number of the first `k` characters. -/
namespace Sys2Proof.Machine

/-! ### The bit string and its bytes -/

/-- The number that the first `m` bits of the bit string of `b` write (R65), most significant bit first. -/
def numberOfBits (b : List Byte) : Nat → Nat
  | 0 => 0
  | m + 1 => numberOfBits b m * 2 + (bitAt b m).toNat

/-- One bit more of a byte: `q` of its bits follow. -/
theorem byte_div_two_pow (x : Byte) (q : Nat) :
    x.toNat / 2 ^ q = x.toNat / 2 ^ (q + 1) * 2 + (x.getLsbD q).toNat := by
  rw [BitVec.getLsbD, Nat.toNat_testBit, Nat.pow_succ, ← Nat.div_div_eq_div_mul]
  omega

/-- The first `j` bits of byte `k` write its upper `j` bits. Past the end of `b` the byte is zero (R66). -/
theorem numberOfBits_inside_byte (b : List Byte) (k : Nat) {j : Nat} (hj : j ≤ 8) :
    numberOfBits b (8 * k + j) = numberOfBits b (8 * k) * 2 ^ j + (b.getD k 0#8).toNat / 2 ^ (8 - j) := by
  induction j with
  | zero =>
    rw [Nat.div_eq_of_lt (b.getD k 0#8).isLt, Nat.pow_zero, Nat.mul_one]
    rfl
  | succ j ih =>
    have hbit : bitAt b (8 * k + j) = (b.getD k 0#8).getLsbD (7 - j) := by
      rw [bitAt, show (8 * k + j) / 8 = k by omega, show (8 * k + j) % 8 = j by omega]
    have hbyte := byte_div_two_pow (b.getD k 0#8) (7 - j)
    rw [show 7 - j + 1 = 8 - j by omega] at hbyte
    rw [← Nat.add_assoc, numberOfBits, ih (by omega), hbit, show 8 - (j + 1) = 7 - j by omega, hbyte, Nat.pow_succ]
    ring

/-- The bytes, read in base 256, are the bits, read in base 2. -/
theorem numberOfBytes_take (b : List Byte) {k : Nat} (hk : k ≤ b.length) :
    numberOfBytes (b.take k) = numberOfBits b (8 * k) := by
  induction k with
  | zero => rfl
  | succ k ih =>
    have hbyte := numberOfBits_inside_byte b k (Nat.le_refl 8)
    rw [List.getD_eq_getElem b 0#8 hk] at hbyte
    rw [List.take_succ_eq_append_getElem hk, numberOfBytes, List.foldl_append, ← numberOfBytes, ih (by omega), Nat.mul_succ]
    simpa using hbyte.symm

/-! ### The characters -/

/-- A group's value is written by its five bits (R66). -/
theorem numberOfBits_group (b : List Byte) (g : Nat) :
    numberOfBits b (5 * (g + 1)) = numberOfBits b (5 * g) * 32 + groupVal b g := by
  simp only [Nat.mul_succ, numberOfBits, groupVal]
  omega

/-- The characters, read in base 32, are the bits, read in base 2. -/
theorem numberOfChars_groups (b : List Byte) (k : Nat) :
    numberOfChars ((List.range k).map fun g => alpha (groupVal b g)) = numberOfBits b (5 * k) := by
  induction k with
  | zero => rfl
  | succ k ih =>
    obtain ⟨-, hvalue⟩ := alpha_spec _ (groupVal_lt b k)
    rw [List.range_succ, List.map_append, numberOfChars, List.foldl_append, ← numberOfChars, ih, numberOfBits_group]
    simp only [List.map_cons, List.map_nil, List.foldl_cons, List.foldl_nil, hvalue]

/-- R69: the characters come first. -/
theorem base32_take (b : List Byte) :
    (base32 b).take (groupCount b.length) = (List.range (groupCount b.length)).map fun g => alpha (groupVal b g) :=
  List.take_left' (by simp)

/-- R68: `'='` follows the characters to the end of the last block. -/
theorem base32_getElem_padding (b : List Byte) {k : Nat} (hk : groupCount b.length ≤ k) (hlen : k < (base32 b).length) :
    (base32 b)[k] = 0x3D#8 := by
  simp only [base32]
  rw [List.getElem_append_right (by simpa using hk), List.getElem_replicate]

theorem base32_chars_in_alphabet (b : List Byte) :
    ∀ c ∈ (base32 b).take (groupCount b.length), isBase32Char c = true := by
  rw [base32_take]
  intro c hc
  obtain ⟨g, -, rfl⟩ := List.mem_map.mp hc
  obtain ⟨hchar, -⟩ := alpha_spec _ (groupVal_lt b g)
  exact hchar

/-- R65, R66: the last group ends in the zero bits that follow the last byte. -/
theorem base32_number (b : List Byte) :
    numberOfChars ((base32 b).take (groupCount b.length))
      = numberOfBytes b * 2 ^ (5 * groupCount b.length - 8 * b.length) := by
  have hbytes := numberOfBytes_take b (Nat.le_refl b.length)
  have hle : 5 * groupCount b.length - 8 * b.length ≤ 8 := by rw [groupCount]; omega
  have hsplit : 8 * b.length + (5 * groupCount b.length - 8 * b.length) = 5 * groupCount b.length := by
    rw [groupCount]; omega
  have hbits := numberOfBits_inside_byte b b.length hle
  rw [List.getD_eq_default b 0#8 (Nat.le_refl _), hsplit] at hbits
  rw [List.take_length] at hbytes
  simpa [base32_take, numberOfChars_groups, hbytes] using hbits

/-! ### B32ENC's ends, and OUT after it -/

theorem writeOut_base32_outLen (s : State) {b : List Byte} (hb : b.length ≤ 40) :
    (writeOut (base32 b) s).outLen.toNat = 8 * ((b.length + 4) / 5) := by
  rw [writeOut_outLen, base32_length, BitVec.toNat_ofNat, Nat.mod_eq_of_lt (by omega)]

theorem writeOut_base32_outBuf (s : State) {b : List Byte} (hb : b.length ≤ 40) :
    (writeOut (base32 b) s).outBuf.toList = base32 b ++ List.replicate (64 - 8 * ((b.length + 4) / 5)) 0#8 := by
  rw [writeOut_outBuf, fillBuf_toList 64 _ (base32_length_le hb), base32_length]

theorem writeOut_base32_take (s : State) {b : List Byte} (hb : b.length ≤ 40) :
    (writeOut (base32 b) s).outBuf.toList.take (groupCount b.length) = (base32 b).take (groupCount b.length) := by
  rw [writeOut_base32_outBuf s hb, List.take_append_of_le_length]
  rw [base32_length, ← padCount_eq]
  exact Nat.le_add_right _ _

theorem writeOut_base32_padding (s : State) (b : List Byte) {k : Nat} (hk : k < 64) (hlo : groupCount b.length ≤ k)
    (hhi : k < 8 * ((b.length + 4) / 5)) : (writeOut (base32 b) s).outBuf[k] = 0x3D#8 := by
  rw [← base32_length] at hhi
  simp only [writeOut_outBuf, fillBuf_getElem, List.getD_eq_getElem _ _ hhi, base32_getElem_padding b hlo hhi]

theorem execB32enc_of_le {s : State} (h : s.inLen.toNat ≤ 40) :
    exec .b32enc s = .next (complete false (writeOut (base32 (inputBytes s)) s)) := by
  obtain ⟨hgt, -⟩ | ⟨-, e⟩ := execB32enc_cases s
  · omega
  · exact e

theorem execB32enc_of_gt {s : State} (h : 40 < s.inLen.toNat) :
    exec .b32enc s = .next (raiseError .invalidLength s) := by
  obtain ⟨-, e⟩ | ⟨hle, -⟩ := execB32enc_cases s
  · exact e
  · omega

end Sys2Proof.Machine

namespace Sys2Proof.Proofs
open Sys2Proof.Machine

/-- Settles O10: IN_LEN decides the end; OUT and OUT_LEN are those of `writeOut` for a string of IN_LEN bytes. -/
theorem b32encWritesBase32 : Obligations.B32encWritesBase32 := by
  unfold Obligations.B32encWritesBase32
  refine ⟨rfl, fun s => ⟨fun hgt => execB32enc_of_gt hgt, fun hle => ⟨_, execB32enc_of_le hle, rfl, ?_, ?_⟩⟩⟩
  all_goals
    have hlen := inputBytes_length hle
    have hb : (inputBytes s).length ≤ 40 := hlen.trans_le hle
  · rw [complete_outLen, writeOut_base32_outLen s hb, hlen]
  · rw [complete_outBuf, writeOut_base32_outBuf s hb, hlen, inputBytes]

/-- Settles O11: bytes and characters both write the number of the bit string (`base32_number`). -/
theorem b32encPreservesTheNumber : Obligations.B32encPreservesTheNumber := by
  unfold Obligations.B32encPreservesTheNumber
  intro s hle
  have hlen := inputBytes_length hle
  have hchars := writeOut_base32_take s (hlen.trans_le hle)
  have hnumber := base32_number (inputBytes s)
  have halphabet := base32_chars_in_alphabet (inputBytes s)
  rw [← hchars, hlen] at hnumber halphabet
  exact ⟨_, execB32enc_of_le hle, hnumber, halphabet,
    fun k hlo hhi => writeOut_base32_padding s _ k.isLt (by rw [hlen]; exact hlo) (by rw [hlen]; exact hhi)⟩

end Sys2Proof.Proofs
end

section
/-! # Construction: the ends of LOCK and GENSEC, and the secret that GENSEC writes -/
namespace Sys2Proof.Machine

/-! ### The draw -/

/-- R78: every draw but the empty one moves the port. -/
theorem afterEntropy_of_ne_zero {n : Nat} (hn : n ≠ 0) (s : State) :
    afterEntropy n s = { s with entropyPort := s.entropyPort.tail, entropyDraws := s.entropyDraws + 1 } :=
  if_neg hn

/-- R113: an answer has bytes enough for every request that GENSEC makes. -/
theorem entropy_take_length (x : EntropySample) {n : Nat} (hn : n ≤ 40) : (x.bytes.toList.take n).length = n := by
  simp [hn]

/-! ### The secret: GENSEC fills SECRET as B32ENC fills OUT -/

theorem writeSecret_base32_secretLen (s : State) {b : List Byte} (hb : b.length ≤ 40) :
    (writeSecret (base32 b) s).secretLen.toNat = 8 * ((b.length + 4) / 5) :=
  writeOut_base32_outLen s hb

theorem writeSecret_base32_secret (s : State) {b : List Byte} (hb : b.length ≤ 40) :
    (writeSecret (base32 b) s).secret.toList = base32 b ++ List.replicate (64 - 8 * ((b.length + 4) / 5)) 0#8 :=
  writeOut_base32_outBuf s hb

theorem fillBuf_nil (n : Nat) : fillBuf n [] = Vector.replicate n 0#8 := by
  ext k hk
  rw [fillBuf_getElem, Vector.getElem_replicate, List.getD_nil]

theorem writeSecret_base32_nil (s : State) :
    writeSecret (base32 []) s = { s with secret := Vector.replicate 64 0#8, secretLen := 0#7 } := by
  rw [← fillBuf_nil]
  rfl

/-- R69: the characters come before the padding. -/
theorem base32_getElem_char (b : List Byte) {k : Nat} (hk : k < groupCount b.length) (hlen : k < (base32 b).length) :
    isBase32Char (base32 b)[k] = true :=
  base32_chars_in_alphabet b _ (List.mem_take_iff_getElem.mpr ⟨k, lt_min hk hlen, rfl⟩)

end Sys2Proof.Machine

namespace Sys2Proof.Proofs
open Sys2Proof.Machine

/-- Settles O12: each end of LOCK is the clause of its own checks, and the other clauses ask for other checks. -/
theorem lockConstructs : Obligations.LockConstructs := by
  unfold Obligations.LockConstructs
  refine ⟨rfl, fun s => ?_⟩
  obtain ⟨hl, e⟩ | ⟨hl, hz, e⟩ | ⟨hl, hz, hn, e⟩ | ⟨hl, hz, hn, e⟩ := execLock_cases s
  · exact ⟨fun _ => e, by simp [hl], by simp [hl], by simp [hl]⟩
  · exact ⟨by simp [hl], fun _ _ => e, by simp [hz], by simp [hz]⟩
  · exact ⟨by simp [hl], by simp [hz], fun _ _ _ => e, fun _ _ hle => absurd hn (Nat.not_lt.mpr hle)⟩
  · exact ⟨by simp [hl], by simp [hz], fun _ _ hgt => absurd hgt (Nat.not_lt.mpr hn), fun _ _ _ => e⟩

/-- Settles O13: each end of GENSEC is the clause of its own checks, and the other clauses ask for other checks. A draw of
RAND_LEN bytes fills SECRET with their Base32. -/
theorem gensecConstructs : Obligations.GensecConstructs := by
  unfold Obligations.GensecConstructs
  refine ⟨rfl, fun s => ?_⟩
  obtain ⟨hl, e⟩ | ⟨hl, hcfg, e⟩ | ⟨hl, hz, hn, h0, hok, e⟩ | ⟨hl, hz, hn, h0, hok, e⟩ | ⟨hl, hz, h0, e⟩ :=
    execGensec_cases s
  · exact ⟨fun _ => e, by simp [hl], by simp [hl], by simp [hl], by simp [hl]⟩
  · have hbig (hz : s.stepSize ≠ 0#32) : ¬ s.randLen.toNat ≤ 40 := Nat.not_le.mpr (hcfg.resolve_left hz)
    exact ⟨by simp [hl], fun _ _ => e, fun _ hz hn => absurd hn (hbig hz), fun _ hz hn => absurd hn (hbig hz),
      fun _ hz h0 => absurd (by simp [h0]) (hbig hz)⟩
  · rw [afterEntropy_of_ne_zero (BitVec.toNat_ne_iff_ne.mpr h0)] at e
    exact ⟨by simp [hl], by simp [hz, Nat.not_lt.mpr hn], fun _ _ _ _ _ => e, by simp [hok], by simp [h0]⟩
  · rw [afterEntropy_of_ne_zero (BitVec.toNat_ne_iff_ne.mpr h0)] at e
    have hlen := entropy_take_length (nextEntropy s) hn
    refine ⟨by simp [hl], by simp [hz, Nat.not_lt.mpr hn], by simp [hok], fun _ _ _ _ _ => ⟨_, e, rfl, ?_, ?_⟩,
      by simp [h0]⟩
    · rw [complete_secretLen, setLocked_secretLen, writeSecret_base32_secretLen _ (hlen.trans_le hn), hlen]
    · rw [complete_secret, setLocked_secret, writeSecret_base32_secret _ (hlen.trans_le hn), hlen]
  · rw [writeSecret_base32_nil] at e
    exact ⟨by simp [hl], by simp [hz, h0], by simp [h0], by simp [h0], fun _ _ _ => e⟩

/-- Settles O14: 20 bytes make 32 groups of five bits, so no `'='` follows the characters (R68). -/
theorem gensecTwentyBytesUnpadded : Obligations.GensecTwentyBytesUnpadded := by
  unfold Obligations.GensecTwentyBytesUnpadded
  intro s hl hz hr hok
  have hn : s.randLen.toNat = 20 := congrArg BitVec.toNat hr
  obtain ⟨-, hclauses⟩ := gensecConstructs
  obtain ⟨-, -, -, hdrawn, -⟩ := hclauses s
  obtain ⟨t, ht, -, hsecretLen, hsecret⟩ := hdrawn hl hz (by omega) (by rw [hr]; decide) hok
  rw [hn] at hsecretLen hsecret
  have hdraw := entropy_take_length (nextEntropy s) (show 20 ≤ 40 by decide)
  generalize (nextEntropy s).bytes.toList.take 20 = b at hsecret hdraw
  have hchars : (base32 b).length = 32 := by rw [base32_length, hdraw]
  have hbyte (k : Fin 64) :
      t.secret[k.val] = (base32 b ++ List.replicate 32 0#8)[k.val]'(by rw [List.length_append, hchars]; exact k.isLt) := by
    simp only [← hsecret, Vector.getElem_toList]
  refine ⟨t, ht, BitVec.eq_of_toNat_eq hsecretLen, fun k hk => ?_, fun k hk => ?_⟩
  · rw [hbyte, List.getElem_append_left (hchars.symm ▸ hk)]
    exact base32_getElem_char b (hdraw.symm ▸ hk) _
  · rw [hbyte, List.getElem_append_right (hchars.trans_le hk), List.getElem_replicate]

end Sys2Proof.Proofs
end

section
/-! # Truncation and HOTP: the digits of a code, and what of the digest truncation reads -/
namespace Sys2Proof.Machine

/-! ### The code of a truncated digest -/

theorem HoldsCodeOf.codeVal_lt {t : State} {d : Vector Byte 20} (h : HoldsCodeOf t d) : t.codeVal.toNat < 1000000 := by
  obtain ⟨-, hval, -, -, -⟩ := h
  rw [hval]
  exact Nat.mod_lt _ (by decide)

theorem HoldsCodeOf.code_ascii {t : State} {d : Vector Byte 20} (h : HoldsCodeOf t d) (k : Fin 6) :
    0x30 ≤ t.code[k.val].toNat ∧ t.code[k.val].toNat ≤ 0x39 := by
  obtain ⟨-, -, hdigit, -, -⟩ := h
  rw [hdigit k]
  exact ⟨le_specDigit _ _, Nat.le_of_lt_succ (specDigit_lt _ _)⟩

/-- R82: the digits of CODE are those of CODE_VAL. -/
theorem HoldsCodeOf.code_toNat {t : State} {d : Vector Byte 20} (h : HoldsCodeOf t d) (k : Fin 6) :
    t.code[k.val].toNat = 0x30 + t.codeVal.toNat / 10 ^ (5 - k.val) % 10 := by
  obtain ⟨-, hval, hdigit, -, -⟩ := h
  rw [hdigit k, specDigit, hval]

/-- R83: CODE, read in decimal, is CODE_VAL. Six digits suffice for a number below 1000000. -/
theorem HoldsCodeOf.code_decimal {t : State} {d : Vector Byte 20} (h : HoldsCodeOf t d) :
    (t.code[0].toNat - 0x30) * 100000 + (t.code[1].toNat - 0x30) * 10000 + (t.code[2].toNat - 0x30) * 1000
        + (t.code[3].toNat - 0x30) * 100 + (t.code[4].toNat - 0x30) * 10 + (t.code[5].toNat - 0x30)
      = t.codeVal.toNat := by
  have hlt := h.codeVal_lt
  have h0 : t.code[0].toNat = 0x30 + t.codeVal.toNat / 100000 % 10 := h.code_toNat 0
  have h1 : t.code[1].toNat = 0x30 + t.codeVal.toNat / 10000 % 10 := h.code_toNat 1
  have h2 : t.code[2].toNat = 0x30 + t.codeVal.toNat / 1000 % 10 := h.code_toNat 2
  have h3 : t.code[3].toNat = 0x30 + t.codeVal.toNat / 100 % 10 := h.code_toNat 3
  have h4 : t.code[4].toNat = 0x30 + t.codeVal.toNat / 10 % 10 := h.code_toNat 4
  have h5 : t.code[5].toNat = 0x30 + t.codeVal.toNat / 1 % 10 := h.code_toNat 5
  omega

/-- R84, R86, R92: the four commands that write a code end in an error or with the code of some digest. -/
theorem Ends.holdsCodeOf {s t : State} {i : Instr} (he : Ends s i t)
    (hi : i = .trunc ∨ i = .hotp ∨ i = .totp ∨ i = .totpS) (hok : t.status.err = .ok) : ∃ d, HoldsCodeOf t d := by
  cases he with
  | error _ hne => exact absurd hok hne
  | clockError | entropyError => cases hok
  | trunc | hotp | totp | totpS => exact ⟨_, holdsCodeOf_of_fields rfl rfl rfl⟩
  | b32enc | lock | gensec | pack64 | vtotp | vhotp => simp at hi

/-! ### What truncation reads -/

/-- R80, R83: the window at an offset below 16 ends before byte 19. -/
theorem specTrunc_congr {d d' : Vector Byte 20} (hbytes : ∀ k : Fin 19, d[k.val] = d'[k.val])
    (hoffset : d[19].toNat % 16 = d'[19].toNat % 16) : specTrunc d = specTrunc d' := by
  have hlt : d'[19].toNat % 16 < 16 := Nat.mod_lt _ (by decide)
  have hbyte (k : Nat) (hk : k < 19) : d[k] = d'[k] := hbytes ⟨k, hk⟩
  simp only [specTrunc, hoffset]
  rw [hbyte _ (by omega), hbyte _ (by omega), hbyte _ (by omega), hbyte _ (by omega)]

/-- R81, R82: the truncated value gives the whole result. -/
theorem truncDigest_congr {d d' : Vector Byte 20} (h : specTrunc d = specTrunc d') : truncDigest d = truncDigest d' := by
  have hvalue : truncValue d = truncValue d' :=
    BitVec.eq_of_toNat_eq (by rw [truncValue_toNat, truncValue_toNat, h])
  rw [truncDigest, truncDigest, hvalue]

end Sys2Proof.Machine

namespace Sys2Proof.Proofs
open Sys2Proof.Machine

/-- Settles O15: TRUNC's only end writes the code of DIGEST. -/
theorem truncTruncatesDigest : Obligations.TruncTruncatesDigest := by
  unfold Obligations.TruncTruncatesDigest
  exact ⟨rfl, fun s => ⟨_, execTrunc_eq s, holdsCodeOf_of_fields rfl rfl rfl, rfl⟩⟩

/-- Settles O16: an end without error holds the code of some digest. -/
theorem codeIsSixDecimalDigits : Obligations.CodeIsSixDecimalDigits := by
  unfold Obligations.CodeIsSixDecimalDigits
  intro i s t hi ht hok
  obtain ⟨d, hcode⟩ := (ends_of_exec ht).holdsCodeOf hi hok
  exact ⟨hcode.code_ascii, hcode.codeVal_lt, hcode.code_decimal⟩

/-- Settles O17: the two digests have the same truncated value, and so the same results. -/
theorem truncationWindowStaysInside : Obligations.TruncationWindowStaysInside := by
  unfold Obligations.TruncationWindowStaysInside
  intro s s' t t' hbytes hoffset ht ht'
  cases ht.symm.trans (execTrunc_eq s)
  cases ht'.symm.trans (execTrunc_eq s')
  exact sameCode_of_writeCode (truncDigest_congr (specTrunc_congr hbytes hoffset)) s s'

/-- Settles O18: each end of HOTP is the clause of its own checks. In the last, SECRET_LEN at most 64 makes the key the
secret as stored. -/
theorem hotpCodeOfCounterBytes : Obligations.HotpCodeOfCounterBytes := by
  unfold Obligations.HotpCodeOfCounterBytes
  refine ⟨rfl, fun s => ?_⟩
  obtain ⟨hl, e⟩ | ⟨hl, hn, e⟩ | ⟨hl, hn, e⟩ := execHotp_cases s
  · exact ⟨fun _ => e, by simp [hl], by simp [hl]⟩
  · exact ⟨by simp [hl], fun _ _ => e, fun _ _ h => absurd h hn⟩
  · refine ⟨by simp [hl], fun _ h => absurd hn h, fun _ hcfg _ => ⟨_, e, ?_, rfl⟩⟩
    obtain ⟨-, hlen⟩ := hcfg hl
    rw [hotpOf, secretKey_eq hlen]
    exact holdsCodeOf_of_fields rfl rfl rfl

end Sys2Proof.Proofs
end

section
/-! # The counter packer and TOTP: the packed bytes as a number, the ends of the clock's commands, and the draws -/
namespace Sys2Proof.Machine

/-! ### The packed bytes -/

theorem numberOfBytes_append_singleton (b : List Byte) (x : Byte) :
    numberOfBytes (b ++ [x]) = numberOfBytes b * 256 + x.toNat := by
  rw [numberOfBytes, List.foldl_append, ← numberOfBytes, List.foldl_cons, List.foldl_nil]

/-- R87: the first `k` of the eight bytes write the upper `8 k` bits of the counter. -/
theorem numberOfBytes_bigEndian8_take {c : Nat} (hc : c < 2 ^ 64) {k : Nat} (hk : k ≤ 8) :
    numberOfBytes ((bigEndian8 c).toList.take k) = c / 2 ^ (64 - 8 * k) := by
  induction k with
  | zero => exact (Nat.div_eq_of_lt hc).symm
  | succ k ih =>
    have hlen : k < (bigEndian8 c).toList.length := by rw [Vector.length_toList]; exact hk
    have hdigit : c / 2 ^ (64 - 8 * k) = c / 2 ^ (56 - 8 * k) / 256 := by
      rw [Nat.div_div_eq_div_mul, show 64 - 8 * k = 56 - 8 * k + 8 by omega, Nat.pow_add]
    rw [List.take_succ_eq_append_getElem hlen, numberOfBytes_append_singleton, ih (by omega), Vector.getElem_toList,
      bigEndian8_getElem c k hk, hdigit, show 64 - 8 * (k + 1) = 56 - 8 * k by omega]
    exact Nat.div_add_mod' _ 256

/-- R87: `be64(Pack64(c)) = c`. -/
theorem numberOfBytes_pack64 (c : BitVec 64) : numberOfBytes (pack64 c).toList = c.toNat := by
  have h := numberOfBytes_bigEndian8_take c.isLt (Nat.le_refl 8)
  rwa [List.take_of_length_le (Vector.length_toList).le, Nat.pow_zero, Nat.div_one, ← pack64_eq] at h

/-! ### The ends of HOTP, TOTP and TOTP.S, each from its checks -/

theorem execHotp_of_ready {s : State} (hl : s.status.locked = true) (hn : s.ctrbLen = 8#4) :
    exec .hotp s = .next (complete false (writeCode (hotpOf (secretKey s) s.ctrb) s)) := by
  obtain ⟨hl', -⟩ | ⟨-, hn', -⟩ | ⟨-, -, e⟩ := execHotp_cases s
  · simp [hl] at hl'
  · exact absurd hn hn'
  · exact e

theorem execTotp_of_unlocked {s : State} (hl : s.status.locked = false) :
    exec .totp s = .next (raiseError .notConstructed s) := by
  obtain ⟨-, e⟩ | ⟨hl', -⟩ | ⟨hl', -⟩ := execTotp_cases s
  · exact e
  all_goals simp [hl] at hl'

theorem execTotp_of_refused {s : State} (hl : s.status.locked = true) (hx : ¬ SampleAccepted s (nextTime s)) :
    exec .totp s = .next (raiseError .clockUnavailable (drawTime s)) := by
  obtain ⟨hl', -⟩ | ⟨-, -, e⟩ | ⟨-, hx', -⟩ := execTotp_cases s
  · simp [hl] at hl'
  · exact e
  · exact absurd hx' hx

theorem execTotp_of_accepted {s : State} (hl : s.status.locked = true) (hx : SampleAccepted s (nextTime s)) :
    exec .totp s = .next (complete false (acceptTime (nextTime s).secs
      (writeStepUsed (curStep (nextTime s).secs s.stepSize)
        (writeCode (hotpOf (secretKey s) (pack64 (curStep (nextTime s).secs s.stepSize))) (drawTime s))))) := by
  obtain ⟨hl', -⟩ | ⟨-, hx', -⟩ | ⟨-, -, e⟩ := execTotp_cases s
  · simp [hl] at hl'
  · exact absurd hx hx'
  · exact e

theorem execTotpS_of_unlocked {s : State} (hl : s.status.locked = false) :
    exec .totpS s = .next (raiseError .notConstructed s) := by
  obtain ⟨-, e⟩ | ⟨hl', -⟩ := execTotpS_cases s
  · exact e
  · simp [hl] at hl'

theorem execTotpS_of_locked {s : State} (hl : s.status.locked = true) :
    exec .totpS s = .next (complete false (writeStepUsed s.stepReg
      (writeCode (hotpOf (secretKey s) (pack64 s.stepReg)) s))) := by
  obtain ⟨hl', -⟩ | ⟨-, e⟩ := execTotpS_cases s
  · simp [hl] at hl'
  · exact e

/-- R92: TOTP's five updates as one, its whole frame. -/
theorem totp_updates_eq (s : State) (c : TruncResult) (st t : BitVec 64) :
    complete false (acceptTime t (writeStepUsed st (writeCode c (drawTime s))))
      = { s with
          truncVal := c.value, codeVal := c.codeVal, code := codeBytes c.digits, stepUsed := st
          tlast := t, tlastValid := true
          timePort := s.timePort.tail, timeDraws := s.timeDraws + 1
          status := s.status.afterOk false } := by
  simp only [drawTime, writeCode, writeStepUsed, acceptTime, complete, Status.completed]

/-- R85, R92: the code of a step is the truncation of HMAC-SHA1 of the step's eight bytes under the secret as stored. -/
theorem hotpOf_pack64 {s : State} (hlen : s.secretLen.toNat ≤ 64) (st : BitVec 64) :
    hotpOf (secretKey s) (pack64 st) = truncDigest (Config.hmacSha1 (secretString s) (bigEndian8 st.toNat)) := by
  rw [hotpOf, secretKey_eq hlen, pack64_eq]

/-! ### The draws -/

/-- The command takes a time sample (R91): it is constructed and reads the clock. -/
def DrawsSample (i : Instr) (s : State) : Prop := (i = .totp ∨ i = .vtotp) ∧ s.status.locked = true

/-- The command asks the entropy port (R78): GENSEC past its checks, for at least one byte. -/
def DrawsEntropy (i : Instr) (s : State) : Prop :=
  i = .gensec ∧ s.status.locked = false ∧ s.stepSize ≠ 0#32 ∧ s.randLen.toNat ≤ 40 ∧ s.randLen ≠ 0#6

@[simp] theorem afterEntropy_timeDraws (n : Nat) (s : State) : (afterEntropy n s).timeDraws = s.timeDraws := by
  obtain ⟨p, d, e⟩ := afterEntropy_moves n s
  rw [e]

/-- A sample that R112's check refuses is spent as an accepted one is. -/
theorem exec_timeDraws_of_draws {i : Instr} {s t : State} (h : exec i s = .next t) (hd : DrawsSample i s) :
    t.timeDraws = s.timeDraws + 1 := by
  obtain ⟨rfl | rfl, hl⟩ := hd
  · obtain ⟨hl', -⟩ | ⟨-, -, e⟩ | ⟨-, -, e⟩ := execTotp_cases s
    · simp [hl] at hl'
    all_goals cases h.symm.trans e; rfl
  · obtain ⟨hl', -⟩ | ⟨-, -, e⟩ | ⟨-, -, e⟩ := execVtotp_cases s
    · simp [hl] at hl'
    all_goals cases h.symm.trans e; rfl

/-- Before construction TOTP and VTOTP fail their first check (R103); no other command has an end that draws a sample. -/
theorem exec_timeDraws_of_not_draws {i : Instr} {s t : State} (h : exec i s = .next t) (hd : ¬ DrawsSample i s) :
    t.timeDraws = s.timeDraws := by
  cases i with
  | b32enc => obtain ⟨-, e⟩ | ⟨-, e⟩ := execB32enc_cases s <;> cases h.symm.trans e <;> rfl
  | lock =>
    obtain ⟨-, e⟩ | ⟨-, -, e⟩ | ⟨-, -, -, e⟩ | ⟨-, -, -, e⟩ := execLock_cases s <;> cases h.symm.trans e <;> rfl
  | gensec =>
    obtain ⟨-, e⟩ | ⟨-, -, e⟩ | ⟨-, -, -, -, -, e⟩ | ⟨-, -, -, -, -, e⟩ | ⟨-, -, -, e⟩ := execGensec_cases s <;>
      cases h.symm.trans e <;> simp
  | trunc => cases h.symm.trans (execTrunc_eq s); rfl
  | hotp => obtain ⟨-, e⟩ | ⟨-, -, e⟩ | ⟨-, -, e⟩ := execHotp_cases s <;> cases h.symm.trans e <;> rfl
  | pack64 => cases h.symm.trans (execPack64_eq s); rfl
  | totp =>
    obtain ⟨-, e⟩ | ⟨hl, -⟩ | ⟨hl, -⟩ := execTotp_cases s
    · cases h.symm.trans e; rfl
    all_goals exact absurd ⟨.inl rfl, hl⟩ hd
  | totpS => obtain ⟨-, e⟩ | ⟨-, e⟩ := execTotpS_cases s <;> cases h.symm.trans e <;> rfl
  | vtotp =>
    obtain ⟨-, e⟩ | ⟨hl, -⟩ | ⟨hl, -⟩ := execVtotp_cases s
    · cases h.symm.trans e; rfl
    all_goals exact absurd ⟨.inr rfl, hl⟩ hd
  | vhotp => obtain ⟨-, e⟩ | ⟨-, -, e⟩ | ⟨-, -, e⟩ := execVhotp_cases s <;> cases h.symm.trans e <;> rfl

theorem Ends.entropyDraws_of_ne_gensec {s t : State} {i : Instr} (he : Ends s i t) (hi : i ≠ .gensec) :
    t.entropyDraws = s.entropyDraws := by
  cases he with
  | entropyError | gensec => exact absurd rfl hi
  | _ => rfl

/-- An answer that reports failure is spent as one that supplies bytes is. -/
theorem exec_entropyDraws_of_draws {i : Instr} {s t : State} (h : exec i s = .next t) (hd : DrawsEntropy i s) :
    t.entropyDraws = s.entropyDraws + 1 := by
  obtain ⟨rfl, hl, hz, hn, h0⟩ := hd
  have hdraw := afterEntropy_of_ne_zero (BitVec.toNat_ne_iff_ne.mpr h0) s
  obtain ⟨hl', -⟩ | ⟨-, hcfg, -⟩ | ⟨-, -, -, -, -, e⟩ | ⟨-, -, -, -, -, e⟩ | ⟨-, -, h0', -⟩ := execGensec_cases s
  · simp [hl] at hl'
  · exact absurd hn (Nat.not_le.mpr (hcfg.resolve_left hz))
  · rw [hdraw] at e; cases h.symm.trans e; rfl
  · rw [hdraw] at e; cases h.symm.trans e; rfl
  · exact absurd h0' h0

/-- GENSEC that fails a check, or asks for no byte, leaves the port alone, as every other command does. -/
theorem exec_entropyDraws_of_not_draws {i : Instr} {s t : State} (h : exec i s = .next t) (hd : ¬ DrawsEntropy i s) :
    t.entropyDraws = s.entropyDraws := by
  by_cases hi : i = .gensec
  · subst hi
    obtain ⟨-, e⟩ | ⟨-, -, e⟩ | ⟨hl, hz, hn, h0, -⟩ | ⟨hl, hz, hn, h0, -⟩ | ⟨-, -, -, e⟩ := execGensec_cases s
    · cases h.symm.trans e; rfl
    · cases h.symm.trans e; rfl
    · exact absurd ⟨rfl, hl, hz, hn, h0⟩ hd
    · exact absurd ⟨rfl, hl, hz, hn, h0⟩ hd
    · cases h.symm.trans e; rfl
  · exact (ends_of_exec h).entropyDraws_of_ne_gensec hi

end Sys2Proof.Machine

namespace Sys2Proof.Proofs
open Sys2Proof.Machine

/-- Settles O19: PACK64's only end writes `Pack64` of COUNTER, R87's formula. -/
theorem pack64PacksBigEndian : Obligations.Pack64PacksBigEndian := by
  unfold Obligations.Pack64PacksBigEndian
  refine ⟨rfl, fun s => ⟨_, execPack64_eq s, fun i => ?_, rfl, rfl⟩⟩
  simp only [complete_ctrb, writeCounterBytes_ctrb, pack64_eq, bigEndian8_getElem _ _ i.isLt]

/-- Settles O20, by the number of the packed bytes. -/
theorem packedBytesReadBack : Obligations.PackedBytesReadBack := by
  unfold Obligations.PackedBytesReadBack
  exact fun s => ⟨_, execPack64_eq s, numberOfBytes_pack64 s.counter⟩

/-- Settles O21: each clause's checks give the end. In the two that complete, the invariant of the configuration makes the
division that of R90 and the key the secret as stored. -/
theorem totpCodeOfStep : Obligations.TotpCodeOfStep := by
  unfold Obligations.TotpCodeOfStep
  refine ⟨⟨rfl, rfl⟩, fun s => ⟨fun hl => ⟨execTotp_of_unlocked hl, execTotpS_of_unlocked hl⟩,
    fun hl hx => execTotp_of_refused hl hx, fun hl hcfg hx => ?_, fun hl hcfg => ?_⟩⟩
  · obtain ⟨hz, hlen⟩ := hcfg hl
    have e := execTotp_of_accepted hl hx
    rw [hotpOf_pack64 hlen, totp_updates_eq] at e
    exact ⟨_, e, curStep_toNat _ _ hz, holdsCodeOf_of_fields rfl rfl rfl, rfl⟩
  · obtain ⟨-, hlen⟩ := hcfg hl
    have e := execTotpS_of_locked hl
    rw [hotpOf_pack64 hlen] at e
    exact ⟨_, e, holdsCodeOf_of_fields rfl rfl rfl, rfl⟩

/-- Settles O24: for each port, the case in which a command draws and the cases in which it does not. -/
theorem drawsPerCommand : Obligations.DrawsPerCommand := by
  unfold Obligations.DrawsPerCommand
  exact fun _ _ _ h => ⟨exec_timeDraws_of_draws h, exec_timeDraws_of_not_draws h, exec_entropyDraws_of_draws h,
    exec_entropyDraws_of_not_draws h⟩

/-- Settles O22: PACK64 leaves in CTRB the bytes that TOTP.S packs, and the secret as it was. -/
theorem totpStepEqualsPackedHotp : Obligations.TotpStepEqualsPackedHotp := by
  unfold Obligations.TotpStepEqualsPackedHotp
  intro s hl hc
  refine ⟨_, _, _, execPack64_eq s, execHotp_of_ready hl rfl, execTotpS_of_locked hl, rfl, rfl, ?_⟩
  rw [← hc]
  exact ⟨rfl, rfl, rfl⟩

end Sys2Proof.Proofs
end

section
/-! # Validation: the window's candidates, the comparison, and the ends of VTOTP and VHOTP -/
namespace Sys2Proof.Machine

/-! ### The window's candidates -/

/-- The candidate `st + k` for `k = j - TOL`, if it lies in 64 bits (R96). -/
def stepCandidate (st : BitVec 64) (tol : BitVec 4) (j : Nat) : Option (BitVec 64) :=
  let c : Int := st.toNat - tol.toNat + j
  if 0 ≤ c ∧ c ≤ 2 ^ 64 - 1 then some (BitVec.ofInt 64 c) else none

theorem stepWindow_eq_filterMap (st : BitVec 64) (tol : BitVec 4) :
    stepWindow st tol = (List.range (2 * tol.toNat + 1)).filterMap (stepCandidate st tol) := rfl

theorem stepCandidate_eq_some_iff (st : BitVec 64) (tol : BitVec 4) (j : Nat) (c : BitVec 64) :
    stepCandidate st tol j = some c ↔ c.toNat + tol.toNat = st.toNat + j := by
  have hc := c.isLt
  rw [stepCandidate, Option.ite_none_right_eq_some, Option.some_inj, ← BitVec.toNat_inj, BitVec.toNat_ofInt]
  omega

/-- R96: candidates come in the order of `k`, which is that of the steps. -/
theorem stepWindow_ascending (st : BitVec 64) (tol : BitVec 4) :
    (stepWindow st tol).Pairwise fun a b => a.toNat < b.toNat := by
  rw [stepWindow_eq_filterMap, List.pairwise_filterMap]
  refine List.pairwise_lt_range.imp fun hij a ha b hb => ?_
  rw [stepCandidate_eq_some_iff] at ha hb
  omega

theorem stepWindow_length_le (st : BitVec 64) (tol : BitVec 4) : (stepWindow st tol).length ≤ 2 * tol.toNat + 1 := by
  rw [stepWindow_eq_filterMap]
  exact (List.length_filterMap_le _ _).trans List.length_range.le

/-- R97: no candidate is skipped when the window lies in 64 bits. -/
theorem stepWindow_length_eq {st : BitVec 64} {tol : BitVec 4} (hlo : tol.toNat ≤ st.toNat)
    (hhi : st.toNat + tol.toNat < 2 ^ 64) : (stepWindow st tol).length = 2 * tol.toNat + 1 := by
  have hsome : ∀ j ∈ List.range (2 * tol.toNat + 1), (stepCandidate st tol j).isSome = true := by
    intro j hj
    have hj' : j < 2 * tol.toNat + 1 := List.mem_range.mp hj
    have hfit : st.toNat + j - tol.toNat < 2 ^ 64 := by omega
    refine Option.isSome_iff_exists.mpr ⟨BitVec.ofNat 64 (st.toNat + j - tol.toNat), ?_⟩
    rw [stepCandidate_eq_some_iff, BitVec.toNat_ofNat, Nat.mod_eq_of_lt hfit]
    omega
  rw [stepWindow_eq_filterMap, List.filterMap_length_eq_length.mpr hsome, List.length_range]

/-! ### The comparison (R93) -/

theorem codeEq_iff (s : State) (digits : Vector Byte 6) :
    codeEq s digits = true ↔ s.codeInLen = 6#8 ∧ ∀ k : Fin 6, s.codeIn[k.val] = digits[k.val] := by
  rw [codeEq, Bool.and_eq_true, decide_eq_true_eq, decide_eq_true_eq]

theorem codeBytes_digit (digits : Vector Byte 6) (k : Fin 6) : (codeBytes digits)[k.val] = digits[k.val] := by
  rw [codeBytes_getElem, dif_pos k.isLt]

/-- The state with a code of six bytes presented. -/
def presenting (p : Vector Byte 8) (s : State) : State := { s with codeIn := p, codeInLen := 6#8 }

theorem codeEq_presenting (p : Vector Byte 8) (s : State) (digits : Vector Byte 6) :
    codeEq (presenting p s) digits = true ↔ ∀ k : Fin 6, p[k.val] = digits[k.val] :=
  (codeEq_iff _ _).trans (and_iff_right rfl)

/-- A code read from a state that holds it presents it. -/
theorem HoldsCodeOf.presentsCodeOf {s t : State} {d : Vector Byte 20} (h : HoldsCodeOf t d) (hlen : s.codeInLen = 6#8)
    (hcode : ∀ k : Fin 6, s.codeIn[k.val] = t.code[k.val]) : PresentsCodeOf s d := by
  obtain ⟨-, -, hdigit, -, -⟩ := h
  exact ⟨hlen, fun k => by rw [hcode, hdigit]⟩

/-! ### The ends of VTOTP and VHOTP, each from its checks -/

theorem execVtotp_of_unlocked {s : State} (hl : s.status.locked = false) :
    exec .vtotp s = .next (raiseError .notConstructed s) := by
  obtain ⟨-, e⟩ | ⟨hl', -⟩ | ⟨hl', -⟩ := execVtotp_cases s
  · exact e
  all_goals simp [hl] at hl'

theorem execVtotp_of_refused {s : State} (hl : s.status.locked = true) (hx : ¬ SampleAccepted s (nextTime s)) :
    exec .vtotp s = .next (raiseError .clockUnavailable (drawTime s)) := by
  obtain ⟨hl', -⟩ | ⟨-, -, e⟩ | ⟨-, hx', -⟩ := execVtotp_cases s
  · simp [hl] at hl'
  · exact e
  · exact absurd hx' hx

theorem execVtotp_of_accepted {s : State} (hl : s.status.locked = true) (hx : SampleAccepted s (nextTime s)) :
    exec .vtotp s = .next (complete (windowMatch s (curStep (nextTime s).secs s.stepSize))
      (acceptTime (nextTime s).secs (writeStepUsed (curStep (nextTime s).secs s.stepSize) (drawTime s)))) := by
  obtain ⟨hl', -⟩ | ⟨-, hx', -⟩ | ⟨-, -, e⟩ := execVtotp_cases s
  · simp [hl] at hl'
  · exact absurd hx hx'
  · exact e

theorem execVhotp_of_unlocked {s : State} (hl : s.status.locked = false) :
    exec .vhotp s = .next (raiseError .notConstructed s) := by
  obtain ⟨-, e⟩ | ⟨hl', -⟩ | ⟨hl', -⟩ := execVhotp_cases s
  · exact e
  all_goals simp [hl] at hl'

theorem execVhotp_of_badLength {s : State} (hl : s.status.locked = true) (hn : s.ctrbLen ≠ 8#4) :
    exec .vhotp s = .next (raiseError .invalidCounterLength s) := by
  obtain ⟨hl', -⟩ | ⟨-, -, e⟩ | ⟨-, hn', -⟩ := execVhotp_cases s
  · simp [hl] at hl'
  · exact e
  · exact absurd hn' hn

theorem execVhotp_of_ready {s : State} (hl : s.status.locked = true) (hn : s.ctrbLen = 8#4) :
    exec .vhotp s = .next (complete (codeEq s (hotpOf (secretKey s) s.ctrb).digits) s) := by
  obtain ⟨hl', -⟩ | ⟨-, hn', -⟩ | ⟨-, -, e⟩ := execVhotp_cases s
  · simp [hl] at hl'
  · exact absurd hn hn'
  · exact e

/-! ### The secret and MATCH -/

/-- The state with another secret. -/
def withSecret (key : Vector Byte 64) (len : BitVec 7) (s : State) : State := { s with secret := key, secretLen := len }

/-- The state with another MATCH. -/
def withMatched (m : Bool) (s : State) : State := { s with status := { s.status with matched := m } }

/-- R95: with another secret a validator takes the same branch of its checks and writes the same, but for MATCH. -/
theorem exec_withSecret {i : Instr} {s t : State} (key : Vector Byte 64) (len : BitVec 7) (hi : i = .vtotp ∨ i = .vhotp)
    (h : exec i s = .next t) : ∃ m, exec i (withSecret key len s) = .next (withSecret key len (withMatched m t)) := by
  obtain rfl | rfl := hi
  · obtain ⟨hl, e⟩ | ⟨hl, hx, e⟩ | ⟨hl, hx, e⟩ := execVtotp_cases s <;> cases h.symm.trans e
    · exact ⟨false, execVtotp_of_unlocked hl⟩
    · exact ⟨false, execVtotp_of_refused hl hx⟩
    · exact ⟨_, execVtotp_of_accepted hl hx⟩
  · obtain ⟨hl, e⟩ | ⟨hl, hn, e⟩ | ⟨hl, hn, e⟩ := execVhotp_cases s <;> cases h.symm.trans e
    · exact ⟨false, execVhotp_of_unlocked hl⟩
    · exact ⟨false, execVhotp_of_badLength hl hn⟩
    · exact ⟨_, execVhotp_of_ready hl hn⟩

theorem execVhotp_frame {s t : State} (h : exec .vhotp s = .next t) : t = { s with status := t.status } := by
  obtain ⟨-, e⟩ | ⟨-, -, e⟩ | ⟨-, -, e⟩ := execVhotp_cases s <;> cases h.symm.trans e <;> rfl

theorem execVtotp_frame {s t : State} (h : exec .vtotp s = .next t) :
    t = { s with
      status := t.status, stepUsed := t.stepUsed, tlast := t.tlast, tlastValid := t.tlastValid
      timePort := t.timePort, timeDraws := t.timeDraws } := by
  obtain ⟨-, e⟩ | ⟨-, -, e⟩ | ⟨-, -, e⟩ := execVtotp_cases s <;> cases h.symm.trans e <;> rfl

/-! ### VHOTP after HOTP -/

/-- R100: HOTP leaves the secret and CTRB, so that VHOTP compares six presented bytes with CODE as HOTP wrote it. -/
theorem execVhotp_after_hotp {s t : State} (hl : s.status.locked = true) (hn : s.ctrbLen = 8#4)
    (ht : exec .hotp s = .next t) (p : Vector Byte 8) :
    ∃ u, exec .vhotp (presenting p t) = .next u ∧ u.status.err = .ok
      ∧ (u.status.matched = true ↔ ∀ k : Fin 6, p[k.val] = t.code[k.val]) := by
  cases ht.symm.trans (execHotp_of_ready hl hn)
  refine ⟨_, execVhotp_of_ready hl hn, rfl, ?_⟩
  rw [complete_status, completed_matched, codeEq_presenting]
  refine forall_congr' fun k => ?_
  rw [complete_code, writeCode_code, codeBytes_digit]
  rfl

/-! ### Clock skew (R98) -/

/-- A skew below `n` whole steps moves the step by at most `n`. -/
theorem div_le_div_add_of_lt {a b n z : Nat} (hz : 0 < z) (h : a < b + n * z) : a / z ≤ b / z + n := by
  rw [← Nat.add_mul_div_right b n hz]
  exact Nat.div_le_div_right h.le

/-- A skew of at least `n` whole steps moves the step by at least `n`. -/
theorem div_add_le_div_of_le {a b n z : Nat} (hz : 0 < z) (h : b + n * z ≤ a) : b / z + n ≤ a / z := by
  rw [← Nat.add_mul_div_right b n hz]
  exact Nat.div_le_div_right h

end Sys2Proof.Machine

namespace Sys2Proof.Proofs
open Sys2Proof.Machine

/-- Settles O25: each clause's checks give the end. In the one that completes, the invariant of the configuration makes
the division that of R90 and the key the secret as stored. -/
theorem vtotpMatchesWindow : Obligations.VtotpMatchesWindow := by
  unfold Obligations.VtotpMatchesWindow
  refine ⟨rfl, fun s => ⟨fun hl => execVtotp_of_unlocked hl, fun hl hx => execVtotp_of_refused hl hx,
    fun hl hcfg hx => ?_⟩⟩
  obtain ⟨hz, hlen⟩ := hcfg hl
  exact ⟨_, execVtotp_of_accepted hl hx, curStep_toNat _ _ hz, windowMatch_iff s _ hlen, rfl⟩

/-- Settles O26: the position of a candidate in the range of `k` determines it. -/
theorem windowCandidates : Obligations.WindowCandidates := by
  unfold Obligations.WindowCandidates
  exact fun st tol => ⟨mem_stepWindow st tol, stepWindow_ascending st tol, stepWindow_length_le st tol,
    stepWindow_length_eq⟩

/-- Settles O27: the step that TOTP used is the candidate that VTOTP finds (O21, O25); the bounds are those of a
quotient. -/
theorem skewWithinToleranceAccepted : Obligations.SkewWithinToleranceAccepted := by
  unfold Obligations.SkewWithinToleranceAccepted
  intro s t s' hl hcfg hx ht hl' hcfg' hx' ⟨_, hkey⟩ hsize hinLen hin a b z n
  have hz : 0 < z := Nat.pos_of_ne_zero (BitVec.toNat_ne_iff_ne.mpr (hcfg hl).1)
  refine ⟨fun ⟨hab, hba⟩ => ?_, fun hab hba => ⟨div_le_div_add_of_lt hz hab, div_le_div_add_of_lt hz hba⟩, ?_⟩
  · obtain ⟨-, htotp⟩ := totpCodeOfStep
    obtain ⟨-, -, htotp, -⟩ := htotp s
    obtain ⟨u, hu, hstep, hcode, -⟩ := htotp hl hcfg hx
    cases ht.symm.trans hu
    obtain ⟨-, hvtotp⟩ := vtotpMatchesWindow
    obtain ⟨-, -, hvtotp⟩ := hvtotp s'
    obtain ⟨v, hv, hcentre, hmatch, hframe⟩ := hvtotp hl' hcfg' hx'
    rw [hsize] at hcentre
    refine ⟨v, hv, by rw [hframe], hmatch.mpr ⟨t.stepUsed.toNat, t.stepUsed.isLt, ?_, ?_, ?_⟩⟩
    · rw [hcentre, hstep]; exact hba
    · rw [hcentre, hstep]; exact hab
    · rw [← hkey]; exact hcode.presentsCodeOf hinLen hin
  · intro h ⟨hab, hba⟩
    obtain h | h := h.imp (div_add_le_div_of_le hz) (div_add_le_div_of_le hz) <;> omega

/-- Settles O28: each clause's checks give the end. In the last, SECRET_LEN at most 64 makes the key the secret as
stored. -/
theorem vhotpMatchesCounterCode : Obligations.VhotpMatchesCounterCode := by
  unfold Obligations.VhotpMatchesCounterCode
  refine ⟨rfl, fun s => ⟨fun hl => execVhotp_of_unlocked hl, fun hl hn => execVhotp_of_badLength hl hn,
    fun hl hcfg hn => ?_⟩⟩
  obtain ⟨-, hlen⟩ := hcfg hl
  have e := execVhotp_of_ready hl hn
  rw [hotpOf, secretKey_eq hlen] at e
  exact ⟨_, e, codeEq_truncDigest s _, rfl⟩

/-- Settles O29: VHOTP compares the presented bytes with CODE, and one byte that differs is enough for MATCH = 0. -/
theorem hotpCodeValidates : Obligations.HotpCodeValidates := by
  unfold Obligations.HotpCodeValidates
  intro s t hl hn ht
  refine ⟨?_, fun k b hb => ?_⟩
  · obtain ⟨u, hu, hok, hmatch⟩ := execVhotp_after_hotp hl hn ht t.code
    exact ⟨u, hu, hok, hmatch.mpr fun _ => rfl⟩
  · obtain ⟨u, hu, hok, hmatch⟩ := execVhotp_after_hotp hl hn ht (t.code.set k.val b)
    refine ⟨u, hu, hok, Bool.eq_false_iff.mpr fun h => hb ?_⟩
    rw [← hmatch.mp h k, Vector.getElem_set_self]

/-- Settles O30: another secret changes only MATCH (`exec_withSecret`), and the frames are those of the two
validators' ends. -/
theorem validatorsRevealOnlyMatch : Obligations.ValidatorsRevealOnlyMatch := by
  unfold Obligations.ValidatorsRevealOnlyMatch
  intro i s t t' key len hi ht ht'
  obtain ⟨m, hm⟩ := exec_withSecret key len hi ht
  cases ht'.symm.trans hm
  exact ⟨rfl, fun h => execVhotp_frame (h ▸ ht), fun h => execVtotp_frame (h ▸ ht)⟩

end Sys2Proof.Proofs
end

section
/-! # Exceptions: which error a command reports, what an error leaves alone, the check of a sample, and `irq` -/
namespace Sys2Proof.Machine

/-! ### The causes of each command (R101) -/

theorem cause_b32enc (s : State) (e : ErrCode) : cause .b32enc s e ↔ e = .invalidLength ∧ 40 < s.inLen.toNat := by
  cases e <;> simp [cause]

theorem cause_lock (s : State) (e : ErrCode) : cause .lock s e ↔
    e = .alreadyConstructed ∧ s.status.locked = true ∨ e = .invalidConfig ∧ s.stepSize = 0#32
      ∨ e = .invalidLength ∧ 64 < s.secretLen.toNat := by
  cases e <;> simp [cause]

theorem cause_gensec (s : State) (e : ErrCode) : cause .gensec s e ↔
    e = .alreadyConstructed ∧ s.status.locked = true
      ∨ e = .invalidConfig ∧ (s.stepSize = 0#32 ∨ 40 < s.randLen.toNat)
      ∨ e = .randomSourceExhausted ∧ s.randLen ≠ 0#6 ∧ (nextEntropy s).ok = false := by
  cases e <;> simp [cause]

theorem not_cause_trunc (s : State) (e : ErrCode) : ¬ cause .trunc s e := by
  cases e <;> simp [cause]

theorem not_cause_pack64 (s : State) (e : ErrCode) : ¬ cause .pack64 s e := by
  cases e <;> simp [cause]

theorem cause_of_counterBytes {i : Instr} (hi : i = .hotp ∨ i = .vhotp) (s : State) (e : ErrCode) : cause i s e ↔
    e = .notConstructed ∧ s.status.locked = false ∨ e = .invalidCounterLength ∧ s.ctrbLen ≠ 8#4 := by
  obtain rfl | rfl := hi <;> cases e <;> simp [cause]

theorem cause_of_sampling {i : Instr} (hi : i = .totp ∨ i = .vtotp) (s : State) (e : ErrCode) : cause i s e ↔
    e = .notConstructed ∧ s.status.locked = false ∨ e = .clockUnavailable ∧ ¬ SampleAccepted s (nextTime s) := by
  obtain rfl | rfl := hi <;> cases e <;> simp [cause]

theorem cause_totpS (s : State) (e : ErrCode) :
    cause .totpS s e ↔ e = .notConstructed ∧ s.status.locked = false := by
  cases e <;> simp [cause]

/-- The two length errors have the same rank in R103: no command has both as causes. -/
theorem not_both_length_causes (i : Instr) (s : State) :
    ¬ (cause i s .invalidLength ∧ cause i s .invalidCounterLength) := by
  rintro ⟨⟨rfl, -⟩ | ⟨rfl, -⟩, ⟨h | h, -⟩⟩ <;> cases h

/-! ### The commands that make the same checks -/

/-- HOTP and VHOTP check construction, then CTRB_LEN (R86, R100). -/
theorem exec_cases_of_counterBytes {i : Instr} (hi : i = .hotp ∨ i = .vhotp) (s : State) :
    (s.status.locked = false ∧ exec i s = .next (raiseError .notConstructed s))
    ∨ (s.status.locked = true ∧ s.ctrbLen ≠ 8#4 ∧ exec i s = .next (raiseError .invalidCounterLength s))
    ∨ (s.status.locked = true ∧ s.ctrbLen = 8#4 ∧ ∃ t, exec i s = .next t ∧ t.status.err = .ok) := by
  obtain rfl | rfl := hi
  · obtain hc | hc | ⟨hl, hn, e⟩ := execHotp_cases s
    · exact .inl hc
    · exact .inr (.inl hc)
    · exact .inr (.inr ⟨hl, hn, _, e, rfl⟩)
  · obtain hc | hc | ⟨hl, hn, e⟩ := execVhotp_cases s
    · exact .inl hc
    · exact .inr (.inl hc)
    · exact .inr (.inr ⟨hl, hn, _, e, rfl⟩)

/-- TOTP and VTOTP check construction, then the sample, and take over one that is accepted (R92, R99, R112). -/
theorem exec_cases_of_sampling {i : Instr} (hi : i = .totp ∨ i = .vtotp) (s : State) :
    (s.status.locked = false ∧ exec i s = .next (raiseError .notConstructed s))
    ∨ (s.status.locked = true ∧ ¬ SampleAccepted s (nextTime s)
        ∧ exec i s = .next (raiseError .clockUnavailable (drawTime s)))
    ∨ (s.status.locked = true ∧ SampleAccepted s (nextTime s) ∧ ∃ t, exec i s = .next t
        ∧ t.status.err = .ok ∧ t.tlast = (nextTime s).secs ∧ t.tlastValid = true) := by
  obtain rfl | rfl := hi
  · obtain hc | hc | ⟨hl, hx, e⟩ := execTotp_cases s
    · exact .inl hc
    · exact .inr (.inl hc)
    · exact .inr (.inr ⟨hl, hx, _, e, rfl, rfl, rfl⟩)
  · obtain hc | hc | ⟨hl, hx, e⟩ := execVtotp_cases s
    · exact .inl hc
    · exact .inr (.inl hc)
    · exact .inr (.inr ⟨hl, hx, _, e, rfl, rfl, rfl⟩)

/-! ### The error that a command reports (R103) -/

/-- `e` is OK or a cause that applies, and R103 puts no cause that applies before it. -/
def Reports (i : Instr) (s : State) (e : ErrCode) : Prop :=
  (e = .ok ∨ cause i s e) ∧ ∀ c, cause i s c → errorRank e ≤ errorRank c

/-- OK has the last rank, behind every cause's: it is reported only when no cause applies. -/
theorem Reports.ok_iff {i : Instr} {s : State} {e : ErrCode} (h : Reports i s e) : e = .ok ↔ ∀ c, ¬ cause i s c := by
  obtain ⟨hcause, hrank⟩ := h
  refine ⟨?_, fun hnone => hcause.resolve_right (hnone e)⟩
  rintro rfl c hc
  have hc7 := hrank c hc
  cases c with
  | ok => exact hc
  | _ => simp [errorRank] at hc7

theorem reports_of_counterBytes {i : Instr} {s t : State} (hi : i = .hotp ∨ i = .vhotp) (h : exec i s = .next t) :
    Reports i s t.status.err := by
  obtain ⟨hl, e⟩ | ⟨hl, hn, e⟩ | ⟨hl, hn, u, e, hok⟩ := exec_cases_of_counterBytes hi s <;> cases h.symm.trans e
  · simp [Reports, cause_of_counterBytes hi, or_imp, forall_and, errorRank, hl]
  · simp [Reports, cause_of_counterBytes hi, errorRank, hl, hn]
  · simp [Reports, cause_of_counterBytes hi, hl, hn, hok]

theorem reports_of_sampling {i : Instr} {s t : State} (hi : i = .totp ∨ i = .vtotp) (h : exec i s = .next t) :
    Reports i s t.status.err := by
  obtain ⟨hl, e⟩ | ⟨hl, hx, e⟩ | ⟨hl, hx, u, e, hok, -⟩ := exec_cases_of_sampling hi s <;> cases h.symm.trans e
  · simp [Reports, cause_of_sampling hi, or_imp, forall_and, errorRank, hl]
  · simp [Reports, cause_of_sampling hi, errorRank, hl, hx]
  · simp [Reports, cause_of_sampling hi, hl, hx, hok]

/-- Every command makes its checks in R103's order: the first that fails gives the error. -/
theorem exec_reports {i : Instr} {s t : State} (h : exec i s = .next t) : Reports i s t.status.err := by
  cases i with
  | b32enc =>
    obtain ⟨hn, e⟩ | ⟨hn, e⟩ := execB32enc_cases s <;> cases h.symm.trans e <;>
      simp [Reports, cause_b32enc, errorRank, hn]
  | lock =>
    obtain ⟨hl, e⟩ | ⟨hl, hz, e⟩ | ⟨hl, hz, hn, e⟩ | ⟨hl, hz, hn, e⟩ := execLock_cases s <;> cases h.symm.trans e
    · simp [Reports, cause_lock, or_imp, forall_and, errorRank, hl]
    · simp [Reports, cause_lock, or_imp, forall_and, errorRank, hl, hz]
    · simp [Reports, cause_lock, errorRank, hl, hz, hn]
    · simp [Reports, cause_lock, hl, hz, hn]
  | gensec =>
    obtain ⟨hl, e⟩ | ⟨hl, hc, e⟩ | ⟨hl, hz, hn, h0, ho, e⟩ | ⟨hl, hz, hn, h0, ho, e⟩ | ⟨hl, hz, h0, e⟩ :=
      execGensec_cases s <;> cases h.symm.trans e
    · simp [Reports, cause_gensec, or_imp, forall_and, errorRank, hl]
    · simp [Reports, cause_gensec, or_imp, forall_and, errorRank, hl, hc]
    · simp [Reports, cause_gensec, errorRank, hl, hz, Nat.not_lt.mpr hn, h0, ho]
    · simp [Reports, cause_gensec, hl, hz, Nat.not_lt.mpr hn, ho]
    · simp [Reports, cause_gensec, hl, hz, h0]
  | trunc =>
    cases h.symm.trans (execTrunc_eq s)
    exact ⟨.inl rfl, fun c hc => absurd hc (not_cause_trunc s c)⟩
  | pack64 =>
    cases h.symm.trans (execPack64_eq s)
    exact ⟨.inl rfl, fun c hc => absurd hc (not_cause_pack64 s c)⟩
  | hotp => exact reports_of_counterBytes (.inl rfl) h
  | vhotp => exact reports_of_counterBytes (.inr rfl) h
  | totp => exact reports_of_sampling (.inl rfl) h
  | vtotp => exact reports_of_sampling (.inr rfl) h
  | totpS =>
    obtain ⟨hl, e⟩ | ⟨hl, e⟩ := execTotpS_cases s <;> cases h.symm.trans e
    · simp [Reports, cause_totpS, errorRank, hl]
    · simp [Reports, cause_totpS, hl]

/-! ### What an error leaves alone -/

/-- R102: an end with an error changes STATUS, and the ports that the command drew from. -/
theorem Ends.error_frame {s t : State} {i : Instr} (he : Ends s i t) (hne : t.status.err ≠ .ok) :
    t = { s.afterError t.status.err with
          timePort := t.timePort, timeDraws := t.timeDraws
          entropyPort := t.entropyPort, entropyDraws := t.entropyDraws } := by
  cases he with
  | error | clockError => rfl
  | entropyError n =>
    obtain ⟨p, d, e⟩ := afterEntropy_moves n s
    rw [e]; rfl
  | _ => exact absurd rfl hne

/-- An end with an error leaves PEND and every word that the host reads but STATUS. -/
theorem Ends.error_words {s t : State} {i : Instr} (he : Ends s i t) (hne : t.status.err ≠ .ok) :
    t.pend = s.pend ∧ ∀ r, r ≠ .status → readWord t r = readWord s r := by
  have e := he.error_frame hne
  rw [e]
  refine ⟨rfl, fun r hr => ?_⟩
  cases r with
  | status => exact absurd rfl hr
  | _ => rfl

/-- R103: past the clock's rank come only the entropy port's error and the end without error. -/
theorem Ends.entropy_of_rank {s t : State} {i : Instr} (he : Ends s i t) (hr : errorRank t.status.err ≤ 5) :
    t.entropyPort = s.entropyPort ∧ t.entropyDraws = s.entropyDraws := by
  cases he with
  | error | clockError => exact ⟨rfl, rfl⟩
  | _ => simp [errorRank] at hr

/-- R103: an error of a rank before the clock's was raised before any draw. -/
theorem Ends.ports_of_rank {s t : State} {i : Instr} (he : Ends s i t) (hr : errorRank t.status.err ≤ 4) :
    t.timePort = s.timePort ∧ t.timeDraws = s.timeDraws
      ∧ t.entropyPort = s.entropyPort ∧ t.entropyDraws = s.entropyDraws := by
  cases he with
  | error => exact ⟨rfl, rfl, rfl, rfl⟩
  | _ => simp [errorRank] at hr

/-! ### `irq` (R106) -/

@[simp] theorem afterEntropy_ie (n : Nat) (s : State) : (afterEntropy n s).ie = s.ie := by
  obtain ⟨p, d, e⟩ := afterEntropy_moves n s
  rw [e]

/-- No command writes IE, and each ends with DONE = 1. -/
theorem Ends.irq {s t : State} {i : Instr} (he : Ends s i t) : t.irq = s.ie := by
  obtain ⟨-, hdone, -⟩ := he.flags
  have hie : t.ie = s.ie := by cases he <;> simp
  rw [State.irq, hdone, hie, Bool.and_true]

theorem engineTurn_irq {s t : State} (hs : s.EngineTurn) (h : step s = .next t) : t.irq = s.ie := by
  obtain ⟨i, hi⟩ | ⟨w, -, hw⟩ := decoded_cases (decode s.pend)
  · exact (ends_of_exec ((engineTurn_instr hs hi).symm.trans h)).irq
  · cases h.symm.trans (engineTurn_illegal hs hw)
    exact Bool.and_true _

/-- Only an issue, a write to STATUS and a write to CTRL touch IE or DONE. -/
theorem writeWord_irq {r : WindowWord} (v : Word) {s : State} (hcmd : r ≠ .cmd ∨ s.status.busy = true)
    (hstatus : r ≠ .status) (hctrl : r ≠ .ctrl) : (writeWord r v s).irq = s.irq := by
  have hmap := Proofs.registerMap
  unfold Obligations.RegisterMap at hmap
  obtain ⟨-, -, -, -, -, -, hclass⟩ := hmap
  obtain ⟨hwo, hw1c, hctl, -⟩ := hclass r
  obtain ⟨ha, hb, -⟩ | ⟨-, -, e⟩ | ⟨ha, -⟩ | ⟨ha, -⟩ | ⟨-, e⟩ | ⟨-, -, -, e⟩ | ⟨-, -, e⟩ := writeWord_cases r v s
  · exact absurd hcmd (by simp [hwo.mp ha, hb])
  · rw [e]; rfl
  · exact absurd (hw1c.mp ha) hstatus
  · exact absurd (hctl.mp ha) hctrl
  · rw [e]
  · rw [e]; rfl
  · obtain ⟨hst, hie, -⟩ := storeWord_frame r v s
    rw [e, State.irq, hst, hie, State.irq]

/-- R45: CMD, STATUS and CTRL each stand at one offset. -/
theorem windowWord_control {off : Nat} {r : WindowWord} (h : windowWord off = some r) :
    (r = .cmd → off = 0x000) ∧ (r = .status → off = 0x004) ∧ (r = .ctrl → off = 0x008) := by
  have hmap : ∀ off : Fin 0x200, (windowWord off.val = some .cmd → off.val = 0x000)
      ∧ (windowWord off.val = some .status → off.val = 0x004)
      ∧ (windowWord off.val = some .ctrl → off.val = 0x008) := by
    set_option maxRecDepth 20000 in decide
  obtain ⟨hcmd, hstatus, hctrl⟩ := hmap ⟨off, windowWord_lt h⟩
  exact ⟨fun hr => hcmd (hr ▸ h), fun hr => hstatus (hr ▸ h), fun hr => hctrl (hr ▸ h)⟩

/-- On the host's turn only the answer changes, or a 32-bit write to a mapped word happens. -/
theorem hostTurn_cases {s t : State} {width : Width} {off : Nat} {op : BusOp} {rest : List Event}
    (h : s.HostTurn width off op rest) (ht : step s = .next t) :
    (∃ x, t = { s with schedule := rest, lastResp := x })
    ∨ ∃ r v, width = .word ∧ op = .write v ∧ windowWord off = some r
        ∧ t = respond true none (writeWord r v { s with schedule := rest }) := by
  by_cases hoff : off < 0x200
  · cases hwf : busAccessWf width.bytes off with
    | false =>
      cases ht.symm.trans (hostTurn_step h hoff)
      rw [windowAccess_error width off op _ hoff hwf]
      exact .inl ⟨_, rfl⟩
    | true =>
      obtain ⟨rfl, r, hr⟩ := windowAccess_ok width off hoff hwf
      cases op with
      | read => cases ht.symm.trans (hostTurn_read h hr); exact .inl ⟨_, rfl⟩
      | write v => cases ht.symm.trans (hostTurn_write h hr); exact .inr ⟨r, v, rfl, rfl, hr, rfl⟩
  · cases ht.symm.trans (access_step h.2)
    have hout : windowOffset (Config.otpbBase + off) = none := by
      simp [windowOffset, Config.windowSize]; omega
    refine .inl ⟨none, ?_⟩
    rw [popped_of_cons h.2]
    simp only [hostAccess, h.1, hout]
    rfl

/-! ### Every step answers -/

theorem engineStep_answers (s : State) : ∃ t, engineStep s = .next t := by
  obtain ⟨-, e⟩ | ⟨-, -, e⟩ | ⟨-, -, i, e⟩ := engineStep_cases s
  · exact ⟨_, e⟩
  · exact ⟨_, e⟩
  · rw [e]; exact exec_answers i s

end Sys2Proof.Machine

namespace Sys2Proof.Proofs
open Sys2Proof.Machine

/-- Settles O6: the first failing check gives the error (`exec_reports`); the ends of a command give the rest. -/
theorem errorCausesAndPriority : Obligations.ErrorCausesAndPriority := by
  unfold Obligations.ErrorCausesAndPriority
  refine ⟨⟨rfl, rfl, rfl, rfl, rfl, rfl, rfl, rfl, rfl, fun e => by cases e <;> decide⟩, fun i s => ?_,
    fun s h hd => ⟨_, engineTurn_illegal h hd, rfl, rfl, rfl⟩⟩
  obtain ⟨t, ht, he⟩ := exec_ends i s
  have hrep := exec_reports ht
  have hok := hrep.ok_iff
  obtain ⟨hcause, hrank⟩ := hrep
  exact ⟨t, ht, hok, hcause.resolve_left, hrank, not_both_length_causes i s, he.ports_of_rank, he.entropy_of_rank,
    he.error_words⟩

/-- Settles O7, by the ends of a command that report an error. -/
theorem errorChangesOnlyStatus : Obligations.ErrorChangesOnlyStatus := by
  unfold Obligations.ErrorChangesOnlyStatus
  exact ⟨fun i s t h hne => (ends_of_exec h).error_frame hne, fun s h hd => engineTurn_illegal h hd⟩

/-- Settles O23: each clause's premise decides whether the sample is accepted. -/
theorem clockSampleCheck : Obligations.ClockSampleCheck := by
  unfold Obligations.ClockSampleCheck
  intro i s hi hl
  obtain ⟨hl', -⟩ | ⟨-, hx, e⟩ | ⟨-, ⟨hv, hle⟩, t, ht, hok, hlast, hvalid⟩ := exec_cases_of_sampling hi s
  · simp [hl] at hl'
  · refine ⟨_, e, fun _ => rfl, fun _ _ => rfl, fun hv hle => absurd ⟨hv, fun htv => ?_⟩ hx, fun _ => ⟨rfl, rfl⟩⟩
    exact hle.resolve_left (by simp [htv])
  · exact ⟨t, ht, fun hv' => absurd (hv.symm.trans hv') nofun, fun htv hlt => absurd (hle htv) (Nat.not_le.mpr hlt),
      fun _ _ => ⟨hok, hlast, hvalid⟩, fun hne => absurd hok hne⟩

/-- Settles O41: the three accesses that touch IE or DONE, and then all others. -/
theorem irqIsEnabledDone : Obligations.IrqIsEnabledDone := by
  unfold Obligations.IrqIsEnabledDone
  refine ⟨fun s t hs h => engineTurn_irq hs h, fun s t v rest hs h => ?_, fun s t v rest hs h => ?_,
    fun s t v rest hs hb h => ?_, fun s t width off op rest hs hother h => ?_⟩
  · cases h.symm.trans (hostTurn_write hs (r := .status) rfl)
    exact (Bool.and_assoc _ _ _).symm
  · cases h.symm.trans (hostTurn_write hs (r := .ctrl) rfl)
    rfl
  · cases h.symm.trans (hostTurn_write hs (r := .cmd) rfl)
    rw [writeWord_cmd_of_idle v (s := { s with schedule := rest }) hb]
    exact Bool.and_false _
  · obtain ⟨x, rfl⟩ | ⟨r, v, rfl, rfl, hr, rfl⟩ := hostTurn_cases hs h
    · rfl
    · obtain hw | hop | ⟨hcmd, hstatus, hctrl⟩ := hother
      · exact absurd rfl hw
      · cases hop
      · obtain ⟨hc, hst, hct⟩ := windowWord_control hr
        exact writeWord_irq v (s := { s with schedule := rest }) (hcmd.imp_left (mt hc)) (mt hst hstatus) (mt hct hctrl)

/-- Settles O9, by whose event the step is. -/
theorem everyStepAnswersNext : Obligations.EveryStepAnswersNext := by
  unfold Obligations.EveryStepAnswersNext
  intro s
  obtain e | ⟨a, -, e⟩ | ⟨-, e⟩ | e := step_cases s
  · rw [e]; exact engineStep_answers _
  · exact ⟨_, e⟩
  · exact ⟨_, e⟩
  · exact ⟨_, e⟩

end Sys2Proof.Proofs
end

section
/-! # Reset: the values at its assertion and at its release, and what a step can do while it is asserted -/
namespace Sys2Proof.Machine

/-! ### The reset values -/

/-- R118: the reset values, whatever the outside does. -/
theorem holdsResetValues_resetRegisters (s : State) : HoldsResetValues (resetRegisters s) := by
  have h : HoldsResetValues State.reset :=
    ⟨by decide, rfl, rfl, rfl, rfl, rfl, fun _ => Vector.getElem_replicate _, rfl, fun _ => Vector.getElem_replicate _, rfl,
      fun _ => Vector.getElem_replicate _, rfl, rfl, fun _ => Vector.getElem_replicate _, rfl, rfl,
      fun _ => Vector.getElem_replicate _, rfl, rfl, fun _ => Vector.getElem_replicate _, rfl,
      fun _ => Vector.getElem_replicate _, rfl, rfl, rfl⟩
  exact h

/-- IE is 0 among the reset values, so there is no interrupt (R106). -/
theorem HoldsResetValues.irq {s : State} (h : HoldsResetValues s) : s.irq = false := by
  obtain ⟨-, hie, -⟩ := h
  rw [State.irq, hie, Bool.false_and]

/-! ### The events of a step -/

theorem step_of_cons {s : State} {e : Event} {rest : List Event} (h : s.schedule = e :: rest) :
    step s = runEvent e s.popped := by
  rw [popped_of_cons h]
  simp only [step, advance, h]

theorem hostAccess_of_asserted {s : State} (hp : s.resetPin = true) (a : BusAccess) : hostAccess a s = noAnswer s := by
  rw [hostAccess, if_pos hp]

theorem releaseReset_of_asserted {s : State} (hp : s.resetPin = true) :
    releaseReset s = { resetRegisters s with resetPin := false } := by
  rw [releaseReset, if_pos hp]

/-- While reset is asserted the engine does not step and no access is answered, so a step leaves the registers alone or puts
them at their reset values (R118, R119). -/
theorem asserted_step_cases {s t : State} (hp : s.resetPin = true) (h : step s = .next t) :
    t = s.popped ∨ t = noAnswer s.popped ∨ ∃ pin, t = { resetRegisters s.popped with resetPin := pin } := by
  obtain e | ⟨a, -, e⟩ | ⟨-, e⟩ | e := step_cases s
  · cases h.symm.trans (e.trans (engineStep_of_idle (.inr hp)))
    exact .inl rfl
  · cases h.symm.trans e
    exact .inr (.inl (hostAccess_of_asserted (s := s.popped) hp a))
  · cases h.symm.trans e
    exact .inr (.inr ⟨true, rfl⟩)
  · cases h.symm.trans e
    exact .inr (.inr ⟨false, releaseReset_of_asserted (s := s.popped) hp⟩)

/-- From the reset values, with reset asserted, every step keeps them and draws nothing (R119). -/
theorem asserted_step_keeps_resetValues {s t : State} (hp : s.resetPin = true) (hs : HoldsResetValues s)
    (h : step s = .next t) :
    HoldsResetValues t ∧ t.timeDraws = s.timeDraws ∧ t.entropyDraws = s.entropyDraws := by
  obtain rfl | rfl | ⟨pin, rfl⟩ := asserted_step_cases hp h
  · exact ⟨hs, rfl, rfl⟩
  · exact ⟨hs, rfl, rfl⟩
  · exact ⟨holdsResetValues_resetRegisters s.popped, rfl, rfl⟩

end Sys2Proof.Machine

namespace Sys2Proof.Proofs
open Sys2Proof.Machine

/-- Settles O42, by the event of each step: the release, or an access while reset is asserted. -/
theorem resetReleaseGivesResetValues : Obligations.ResetReleaseGivesResetValues := by
  unfold Obligations.ResetReleaseGivesResetValues
  refine ⟨?_, fun s rest hp hs => ?_, fun s a rest hp hs => ?_⟩
  · have hreset : HoldsResetValues State.reset := holdsResetValues_resetRegisters State.reset
    exact ⟨hreset, hreset.irq⟩
  · have hvals := holdsResetValues_resetRegisters s.popped
    have hstep : step s = .next (releaseReset s.popped) := step_of_cons hs
    rw [releaseReset_of_asserted (s := s.popped) hp] at hstep
    exact ⟨_, hstep, hvals, hvals.irq, rfl⟩
  · rw [access_step hs, hostAccess_of_asserted (s := s.popped) hp, popped_of_cons hs]
    rfl

/-- Settles O43: the assertion puts the reset values, and no step while reset is asserted changes them. -/
theorem resetAbandonsPendingCommand : Obligations.ResetAbandonsPendingCommand := by
  unfold Obligations.ResetAbandonsPendingCommand
  refine ⟨fun s rest hs => ?_, fun s t hp hs h => ?_⟩
  · have hvals := holdsResetValues_resetRegisters s.popped
    exact ⟨assertReset s.popped, step_of_cons hs, rfl, hvals, hvals.irq, rfl, rfl⟩
  · obtain ⟨hvals, hdraws⟩ := asserted_step_keeps_resetValues hp hs h
    exact ⟨hvals, hvals.irq, hdraws⟩

/-- Settles O44: reset is not asserted, and the registers are at their reset values. -/
theorem resetStateMeetsInvariant : Obligations.ResetStateMeetsInvariant := by
  unfold Obligations.ResetStateMeetsInvariant
  exact inv_of_released (registersOk_resetRegisters State.reset) rfl

end Sys2Proof.Proofs
end
